-- ==== Sys2Proof/Word.lean ====
section
/-! DEFINITION. The words of the part: bytes, 32-bit byte addresses and 8-byte beats (00_scope, "Memory data"). -/

namespace Sys2Proof

/-- One byte. -/
abbrev Byte := BitVec 8

/-- A 32-bit byte address (00_scope, "Memory data"). -/
abbrev Addr := BitVec 32

/-- The 8 data bytes of a beat; the byte at the lowest address is the least significant. -/
abbrev BeatData := BitVec 64

end Sys2Proof
end

