-- ==== Sys2Proof/Config.lean ====
section
/-! DEFINITION. What is fixed for the part (identity, capacities, addresses), and the values the manual leaves open. -/

namespace Sys2Proof.Config

/-- The part code of the status image (R197). -/
def partCode : Nat := 0x0640

/-- The revision number of the status image (R197). -/
def revision : Nat := 1

/-- The trace ring holds at most this many entries (R143). -/
def ringCapacity : Nat := 48

/-- The post buffer holds at most this many entries (R166). -/
def postCapacity : Nat := 24

/-- An outstanding command list holds at most this many entries (R120). -/
def listCapacity : Nat := 4

/-- A cause list holds at most this many causes (R165). -/
def causeCapacity : Nat := 4

/-- The anchor address that the strap lines select (R22). -/
def anchorAddress : Bool → Bool → Addr
  | false, false => 0x00008000
  | false, true => 0x01000000
  | true, false => 0x3FFFF000
  | true, true => 0x7FFFF000

/-- FREE VALUE (log 16). The reference speed after an accepted sample that is no restart and finds the reference
UNKNOWN, at a count of State, for the sample's candidate and interval: R87 and R88 state no value. Its bound, 160.0
km/h, is kept where it is used. -/
opaque referenceAfterUnknown : Nat → Nat → Nat → Nat

/-- FREE VALUE (log 17). Whether a directory entry's retained mark, read as neither 0 nor 1, counts as set, at a count
of State, for the entry's slot: section 12.8 gives the two codes only. -/
opaque retainedOfOtherByte : Nat → Nat → Byte → Bool

end Sys2Proof.Config
end

