-- ==== Sys2Proof/Syntax.lean ====
section
/-! DEFINITION. The commands: one constructor of Instr for each row of spec/opcode_table.json, with the operands that
reach the part from outside. A command with no operand works on what State holds awaiting it (log 3). -/

namespace Sys2Proof

/-- A memory response (R2). -/
inductive Response where
  | ok
  | error
deriving DecidableEq, Repr

/-- One beat of a write: 8 data bytes and 8 byte enables, bit i for byte i (R1). -/
structure WriteBeat where
  data : BeatData
  enables : Byte
deriving DecidableEq, Repr

/-- A read or a write of consecutive beats from an address: a processor transaction (R1), or a burst on the
memory-side port, which has the same shape (R2). -/
inductive Transaction where
  | read (addr : Addr) (len : Nat)
  | write (addr : Addr) (beats : List WriteBeat)
deriving DecidableEq, Repr

/-- The axles (00_scope, "Names"). -/
inductive Axle where
  | n1 | n2 | n3 | n4 | n5 | n6
deriving DecidableEq, Repr

/-- The trucks (00_scope, "Names"). -/
inductive Truck where
  | a | b
deriving DecidableEq, Repr

/-- The trigger lines (R147). -/
inductive Line where
  | l1 | l2 | l3
deriving DecidableEq, Repr

/-- The two channels of the actuator link unit (R117). -/
inductive Channel where
  | traction | air
deriving DecidableEq, Repr

/-- The three links (R115). -/
inductive Link where
  | traction | air | speed
deriving DecidableEq, Repr

/-- Which of a withdrawal and a grant of the same claim, in the instant of an ERROR response, is taken first
(R25, R171: both orders are allowed). -/
inductive TakenFirst where
  | withdrawal | grant
deriving DecidableEq, Repr

/-- Where the recorder takes the requests of trigger lines detected at a core-reset release, among those of the
decoder and the blend unit (R144, R156: any order is allowed). -/
inductive LinePlace where
  | first | second | last
deriving DecidableEq, Repr

/-- The commands of the part. -/
inductive Instr where
  /-- The processor offers a transaction at its port (R1, R5). -/
  | processorTransaction (t : Transaction)
  /-- The path unit answers the held served read (R10). -/
  | servedRead
  /-- The path unit stops the held write to the guarded window (R9). -/
  | guardWrite
  /-- The path unit stops the held write to the served window (R10). -/
  | servedWrite
  /-- The path unit refuses the held straddling transaction (R11). -/
  | straddle
  /-- Memory answers the PASS burst on the port, with read data where it is a read (R7). -/
  | passResponse (r : Response) (data : List BeatData)
  /-- The loader takes one reload request handed to it (R24). -/
  | reloadRequest
  /-- Memory answers the anchor read (R23). -/
  | anchorReadResponse (r : Response) (data : List BeatData)
  /-- Memory answers a configuration read burst (R25). -/
  | configBurstResponse (r : Response) (data : List BeatData) (o : TakenFirst)
  /-- The checked candidate is installed, or a reload's second examination refuses it (R30, R33). `linesFirst`: the
  requests of lines detected at the install are taken before those of the other blocks (R144). -/
  | configInstall (linesFirst : Bool)
  /-- Memory answers the result word write (R25). -/
  | resultWordResponse (r : Response)
  /-- Memory answers OK to an intermediate STORE burst (R159). -/
  | storeBurstResponse (data : List BeatData)
  /-- Memory answers OK to the partial CRC part of the OPEN sequence (R164). -/
  | openSequenceEnd
  /-- Memory answers OK to the directory entry part of the CLOSE sequence (R169). -/
  | closeEntryWritten
  /-- Memory answers OK to the directory header part of the CLOSE sequence (R169). -/
  | closeSequenceEnd
  /-- Memory answers OK to the HEADER sequence's burst (R173). -/
  | headerSequenceDone
  /-- Memory answers OK to the ENTRY sequence's burst (R179). -/
  | entrySequenceDone
  /-- Memory answers OK to the last ERASE burst (R178). -/
  | eraseSequenceEnd
  /-- Memory answers OK to the scan's directory header read (R174). -/
  | scanHeaderRead (data : List BeatData)
  /-- Memory answers OK to a scan read of directory entries (R175). -/
  | scanEntryRead (data : List BeatData)
  /-- The scan reconciles (no response), ends at the response to its header write, or ends at an ERROR (R176). -/
  | scanEnd (r : Option Response) (o : TakenFirst)
  /-- Memory answers ERROR to a STORE write of no scan (R172). -/
  | storeWriteFault (o : TakenFirst)
  /-- The supervisor takes a completed demand record (R37). -/
  | demandRecord
  | freshnessTimerExpiry
  | graceTimerExpiry
  /-- Bytes arrive on the speed link that end a SPEED_SAMPLE frame (R81, R115). -/
  | speedSample (bytes : List Byte)
  | sensorTimerExpiry
  | standstillDwellExpiry
  | recoveryDwellExpiry (axle : Axle)
  | holdDwellExpiry (truck : Truck)
  | reapplyDwellExpiry (truck : Truck)
  | releaseTimerExpiry (truck : Truck)
  /-- Bytes arrive on a link that end a frame the receiver discards (R115). -/
  | frameDiscarded (link : Link) (bytes : List Byte)
  /-- Bytes arrive on the traction link that end a DYN_REPORT frame (R126). -/
  | dynReport (bytes : List Byte)
  /-- Bytes arrive on the air link that end an AIR_REPORT frame (R127). -/
  | airReport (bytes : List Byte)
  /-- Bytes arrive on the traction link that end a RELEASE_ACK frame (R129). -/
  | releaseAck (bytes : List Byte)
  | keepaliveTimerExpiry (channel : Channel)
  /-- The reply timer of the entry with this sequence expires (R122). -/
  | replyTimerExpiry (channel : Channel) (sequence : Byte)
  | handshakeTimerExpiry
  | phaseTimerExpiry
  /-- A trigger line's input goes to a level (R148). -/
  | triggerLineChange (line : Line) (high : Bool)
  | debounceTimerExpiry (line : Line)
  | captureWindowExpiry
  | calendarWrap
  | powerFailWarning
  | powerFailWarningEnd
  | powerOnReset
  /-- The power-on reset is released, with the levels of strap lines 2 and 1 and of clock-backup-good (R22, R141). -/
  | powerOnResetRelease (strap2 strap1 backupGood : Bool)
  | coreReset
  /-- The core reset line is released, with the levels of strap lines 2 and 1 (R22). -/
  | coreResetRelease (strap2 strap1 : Bool) (lines : LinePlace)
  | acknowledgeFlags
  | setIndication
  | setTime
  | armTriggerLine
  | triggerIncident
  | eraseStore
  | retainIncident
  | releaseIncident
  | setKey
  | setRetentionLevel
  | resetAttributes
  | freeze
  | resetPenalty
  | resetEmergency
  | clearSlideFault
  | testAirPath
  | abortAirPathTest
  | releaseTraction
  | resumeTraction
  | millisecondTick
deriving DecidableEq, Repr

end Sys2Proof
end

