-- ==== Sys2Proof/WellFormed.lean ====
section
/-! DEFINITION. What the ports can carry at all: the shape of a transaction (R1), of a memory response to a burst
(R2) and of a received frame (R115). -/

namespace Sys2Proof

/-- R1: 1 to 8 beats from an address aligned to 8 bytes. -/
def Transaction.wellFormed : Transaction → Bool
  | .read addr len => addr.toNat % 8 == 0 && (1 ≤ len && len ≤ 8)
  | .write addr beats => addr.toNat % 8 == 0 && (1 ≤ beats.length && beats.length ≤ 8)

/-- R115: a receiver takes bytes as they arrive, so a command that ends a frame brings at least its last byte. -/
def frameShape (bytes : List Byte) : Bool := 1 ≤ bytes.length

/-- The checks on a command's operands: a transaction has the shape of R1, read data has the beats of its burst (the
anchor read 2, every other loader read 8: R25; a scan's header read 8: R174; other reads 1 to 8), and the bytes that
end a frame are not none. -/
def Instr.wellFormed : Instr → Bool
  | .processorTransaction t => t.wellFormed
  | .passResponse _ data => data.length ≤ 8
  | .anchorReadResponse r data => r == .error || data.length == 2
  | .configBurstResponse r data _ => r == .error || data.length == 8
  | .storeBurstResponse data => data.length ≤ 8
  | .scanHeaderRead data => data.length == 8
  | .scanEntryRead data => 1 ≤ data.length && data.length ≤ 8
  | .speedSample bytes => frameShape bytes
  | .frameDiscarded _ bytes => frameShape bytes
  | .dynReport bytes => frameShape bytes
  | .airReport bytes => frameShape bytes
  | .releaseAck bytes => frameShape bytes
  | .servedRead | .guardWrite | .servedWrite | .straddle | .reloadRequest | .configInstall _
  | .resultWordResponse _ | .openSequenceEnd | .closeEntryWritten | .closeSequenceEnd
  | .headerSequenceDone | .entrySequenceDone | .eraseSequenceEnd | .scanEnd _ _ | .storeWriteFault _
  | .demandRecord | .freshnessTimerExpiry | .graceTimerExpiry | .sensorTimerExpiry
  | .standstillDwellExpiry | .recoveryDwellExpiry _ | .holdDwellExpiry _ | .reapplyDwellExpiry _
  | .releaseTimerExpiry _ | .keepaliveTimerExpiry _ | .replyTimerExpiry _ _ | .handshakeTimerExpiry
  | .phaseTimerExpiry | .triggerLineChange _ _ | .debounceTimerExpiry _ | .captureWindowExpiry
  | .calendarWrap | .powerFailWarning | .powerFailWarningEnd | .powerOnReset
  | .powerOnResetRelease _ _ _ | .coreReset | .coreResetRelease _ _ _ | .acknowledgeFlags
  | .setIndication | .setTime | .armTriggerLine | .triggerIncident | .eraseStore | .retainIncident
  | .releaseIncident | .setKey | .setRetentionLevel | .resetAttributes | .freeze | .resetPenalty
  | .resetEmergency | .clearSlideFault | .testAirPath | .abortAirPathTest | .releaseTraction
  | .resumeTraction | .millisecondTick => true

end Sys2Proof
end

