-- ==== Sys2Proof/Machine/Types.lean ====
section
/-! DEFINITION. The names and small records of the manual: fixed families of values, states of the blocks, records
and frames as decoded, each with the code of section 12.2 where it has one. -/

namespace Sys2Proof.Machine

/-! ### Fixed families -/

/-- One value per truck. -/
structure Pair (α : Type) where
  a : α
  b : α
deriving DecidableEq, Repr

def Pair.get {α : Type} (p : Pair α) : Truck → α
  | .a => p.a
  | .b => p.b

def Pair.set {α : Type} (p : Pair α) (t : Truck) (v : α) : Pair α :=
  match t with
  | .a => { p with a := v }
  | .b => { p with b := v }

def Pair.ofFn {α : Type} (f : Truck → α) : Pair α := ⟨f .a, f .b⟩

def Pair.toList {α : Type} (p : Pair α) : List α := [p.a, p.b]

/-- One value per axle. -/
structure Six (α : Type) where
  v1 : α
  v2 : α
  v3 : α
  v4 : α
  v5 : α
  v6 : α
deriving DecidableEq, Repr

def Six.get {α : Type} (p : Six α) : Axle → α
  | .n1 => p.v1
  | .n2 => p.v2
  | .n3 => p.v3
  | .n4 => p.v4
  | .n5 => p.v5
  | .n6 => p.v6

def Six.set {α : Type} (p : Six α) (x : Axle) (v : α) : Six α :=
  match x with
  | .n1 => { p with v1 := v }
  | .n2 => { p with v2 := v }
  | .n3 => { p with v3 := v }
  | .n4 => { p with v4 := v }
  | .n5 => { p with v5 := v }
  | .n6 => { p with v6 := v }

def Six.ofFn {α : Type} (f : Axle → α) : Six α := ⟨f .n1, f .n2, f .n3, f .n4, f .n5, f .n6⟩

def Six.toList {α : Type} (p : Six α) : List α := [p.v1, p.v2, p.v3, p.v4, p.v5, p.v6]

def Six.all {α : Type} (v : α) : Six α := ⟨v, v, v, v, v, v⟩

/-- One value per trigger line. -/
structure Three (α : Type) where
  l1 : α
  l2 : α
  l3 : α
deriving DecidableEq, Repr

def Three.get {α : Type} (p : Three α) : Line → α
  | .l1 => p.l1
  | .l2 => p.l2
  | .l3 => p.l3

def Three.set {α : Type} (p : Three α) (l : Line) (v : α) : Three α :=
  match l with
  | .l1 => { p with l1 := v }
  | .l2 => { p with l2 := v }
  | .l3 => { p with l3 := v }

def Three.ofFn {α : Type} (f : Line → α) : Three α := ⟨f .l1, f .l2, f .l3⟩

def Three.toList {α : Type} (p : Three α) : List α := [p.l1, p.l2, p.l3]

/-- The health figures of R192, which the manual calls attributes. -/
inductive Health where
  | slideEpisodes | slideFaults | gridDerates | gridTrips | tractionLosses | airLosses | demandRefusals | penalties
deriving DecidableEq, Repr

/-- One value per health figure. -/
structure Eight (α : Type) where
  h1 : α
  h2 : α
  h3 : α
  h4 : α
  h5 : α
  h6 : α
  h7 : α
  h8 : α
deriving DecidableEq, Repr

def Eight.get {α : Type} (p : Eight α) : Health → α
  | .slideEpisodes => p.h1
  | .slideFaults => p.h2
  | .gridDerates => p.h3
  | .gridTrips => p.h4
  | .tractionLosses => p.h5
  | .airLosses => p.h6
  | .demandRefusals => p.h7
  | .penalties => p.h8

def Eight.set {α : Type} (p : Eight α) (x : Health) (v : α) : Eight α :=
  match x with
  | .slideEpisodes => { p with h1 := v }
  | .slideFaults => { p with h2 := v }
  | .gridDerates => { p with h3 := v }
  | .gridTrips => { p with h4 := v }
  | .tractionLosses => { p with h5 := v }
  | .airLosses => { p with h6 := v }
  | .demandRefusals => { p with h7 := v }
  | .penalties => { p with h8 := v }

def Eight.ofFn {α : Type} (f : Health → α) : Eight α :=
  ⟨f .slideEpisodes, f .slideFaults, f .gridDerates, f .gridTrips, f .tractionLosses, f .airLosses,
    f .demandRefusals, f .penalties⟩

def Eight.toList {α : Type} (p : Eight α) : List α := [p.h1, p.h2, p.h3, p.h4, p.h5, p.h6, p.h7, p.h8]

def Eight.all {α : Type} (v : α) : Eight α := ⟨v, v, v, v, v, v, v, v⟩

def allHealth : List Health :=
  [.slideEpisodes, .slideFaults, .gridDerates, .gridTrips, .tractionLosses, .airLosses, .demandRefusals, .penalties]

/-- Code of a health figure (12.2). -/
def Health.code : Health → Nat
  | .slideEpisodes => 1
  | .slideFaults => 2
  | .gridDerates => 3
  | .gridTrips => 4
  | .tractionLosses => 5
  | .airLosses => 6
  | .demandRefusals => 7
  | .penalties => 8

def allAxles : List Axle := [.n1, .n2, .n3, .n4, .n5, .n6]

def axleCode : Axle → Nat
  | .n1 => 1
  | .n2 => 2
  | .n3 => 3
  | .n4 => 4
  | .n5 => 5
  | .n6 => 6

/-- Truck A carries axles 1 to 3, truck B axles 4 to 6 (00_scope). -/
def truckOf : Axle → Truck
  | .n1 | .n2 | .n3 => .a
  | .n4 | .n5 | .n6 => .b

def axlesOf : Truck → List Axle
  | .a => [.n1, .n2, .n3]
  | .b => [.n4, .n5, .n6]

def truckCode : Truck → Nat
  | .a => 1
  | .b => 2

def lineCode : Line → Nat
  | .l1 => 1
  | .l2 => 2
  | .l3 => 3

def linkCode : Link → Nat
  | .traction => 0
  | .air => 1
  | .speed => 2

/-- A timer is stopped, or runs with the operating time at which it expires (00_scope "Time", log 4). -/
inductive Timer where
  | stopped
  | running (expiry : Nat)
deriving DecidableEq, Repr

def Timer.isRunning : Timer → Bool
  | .stopped => false
  | .running _ => true

/-! ### Path unit and directive decoder -/

/-- R3. -/
inductive PathState where
  | transparent | active
deriving DecidableEq, Repr

def PathState.code : PathState → Nat
  | .transparent => 0
  | .active => 1

inductive WindowKind where
  | unused | demand | directive | served | guarded | watch
deriving DecidableEq, Repr

/-- An entry of the window table (fields 1 to 8 of the configuration). -/
structure Window where
  kind : WindowKind
  base : Nat
  size : Nat
deriving DecidableEq, Repr

/-- What a transaction was classified as when it was accepted (R4, R5): a class of R5 with the offset of its first
beat in its window, or `transparent`. -/
inductive TxClass where
  | transparent
  | demand (offset : Nat)
  | directive (offset : Nat)
  | served (offset : Nat)
  | guarded
  | watch (index offset : Nat)
  | straddle
  | anchor
  | outside
deriving DecidableEq, Repr

/-- The transaction held at the processor-side port: its class, whether it is a watched reload request (R6), and the
served-image snapshot of a served read (R10). -/
structure Held where
  txn : Transaction
  cls : TxClass
  reload : Bool
  snapshot : Option (List Byte)
deriving DecidableEq, Repr

/-- Kinds of path violation (R12). -/
inductive Violation where
  | guardWrite | servedWrite | straddle
deriving DecidableEq, Repr

def Violation.code : Violation → Nat
  | .guardWrite => 1
  | .servedWrite => 2
  | .straddle => 3

/-- An assembly buffer: its beats, the present marks of all beats but the last, and the torn mark. -/
structure Assembly where
  beats : List BeatData
  present : List Bool
  torn : Bool
deriving DecidableEq, Repr

/-- The directives (12.6). -/
inductive DirectiveCode where
  | acknowledgeFlags | setIndication | setTime | armTriggerLine | triggerIncident | eraseStore | retainIncident
  | releaseIncident | setKey | setRetentionLevel | resetAttributes | freeze | resetPenalty | resetEmergency
  | clearSlideFault | testAirPath | abortAirPathTest | releaseTraction | resumeTraction
deriving DecidableEq, Repr

def DirectiveCode.code : DirectiveCode → Nat
  | .acknowledgeFlags => 0x01
  | .setIndication => 0x02
  | .setTime => 0x03
  | .armTriggerLine => 0x04
  | .triggerIncident => 0x05
  | .eraseStore => 0x06
  | .retainIncident => 0x07
  | .releaseIncident => 0x08
  | .setKey => 0x09
  | .setRetentionLevel => 0x0A
  | .resetAttributes => 0x0B
  | .freeze => 0x0C
  | .resetPenalty => 0x0D
  | .resetEmergency => 0x0E
  | .clearSlideFault => 0x0F
  | .testAirPath => 0x10
  | .abortAirPathTest => 0x11
  | .releaseTraction => 0x12
  | .resumeTraction => 0x13

/-- The directive of a code; code 0 and codes above 13 (hexadecimal) are none (12.6). -/
def DirectiveCode.ofCode : Nat → Option DirectiveCode
  | 0x01 => some .acknowledgeFlags
  | 0x02 => some .setIndication
  | 0x03 => some .setTime
  | 0x04 => some .armTriggerLine
  | 0x05 => some .triggerIncident
  | 0x06 => some .eraseStore
  | 0x07 => some .retainIncident
  | 0x08 => some .releaseIncident
  | 0x09 => some .setKey
  | 0x0A => some .setRetentionLevel
  | 0x0B => some .resetAttributes
  | 0x0C => some .freeze
  | 0x0D => some .resetPenalty
  | 0x0E => some .resetEmergency
  | 0x0F => some .clearSlideFault
  | 0x10 => some .testAirPath
  | 0x11 => some .abortAirPathTest
  | 0x12 => some .releaseTraction
  | 0x13 => some .resumeTraction
  | _ => none

/-- The key-bearing directives (R19). -/
def DirectiveCode.keyBearing : DirectiveCode → Bool
  | .eraseStore | .releaseIncident | .setKey | .setRetentionLevel | .resetAttributes | .releaseTraction => true
  | .acknowledgeFlags | .setIndication | .setTime | .armTriggerLine | .triggerIncident | .retainIncident | .freeze
  | .resetPenalty | .resetEmergency | .clearSlideFault | .testAirPath | .abortAirPathTest | .resumeTraction => false

/-- Directive results and refusals (R20, 12.2). -/
inductive DirResult where
  | none | done | failed | aborted | abandoned | inProgress
  | check | unknown | argument | busy | frozen | locked | unset | key | state
deriving DecidableEq, Repr

def DirResult.code : DirResult → Nat
  | .none => 0
  | .done => 1
  | .failed => 2
  | .aborted => 3
  | .abandoned => 4
  | .inProgress => 5
  | .check => 16
  | .unknown => 17
  | .argument => 18
  | .busy => 19
  | .frozen => 20
  | .locked => 21
  | .unset => 22
  | .key => 23
  | .state => 24

/-- The two keys (10.2). -/
inductive KeyName where
  | maintenance | authority
deriving DecidableEq, Repr

/-- The directive slot's contents: the dispatched directive with what its owner needs, and whether it still awaits
its dispatch answer (R19, R21). -/
structure Slot where
  code : DirectiveCode
  tag : Nat
  args : List Byte
  keyName : Option KeyName
  key : BitVec 64
  awaiting : Bool
deriving DecidableEq, Repr

structure LastResult where
  tag : Nat
  code : Nat
  result : DirResult
deriving DecidableEq, Repr

/-! ### Loader -/

/-- R24. -/
inductive LoaderState where
  | idle | readingAnchor | readingConfig | checking | scanning | ready | fault
deriving DecidableEq, Repr

def LoaderState.code : LoaderState → Nat
  | .idle => 0
  | .readingAnchor => 1
  | .readingConfig => 2
  | .checking => 3
  | .scanning => 4
  | .ready => 5
  | .fault => 6

/-- R26. -/
inductive LoadCode where
  | none | loaded | anchorBad | configChecksum | configVersion | configRange | configWindows | configOrder
  | reloadRefused | memoryError
deriving DecidableEq, Repr

def LoadCode.code : LoadCode → Nat
  | .none => 0
  | .loaded => 1
  | .anchorBad => 2
  | .configChecksum => 3
  | .configVersion => 4
  | .configRange => 5
  | .configWindows => 6
  | .configOrder => 7
  | .reloadRefused => 8
  | .memoryError => 9

/-- R23. -/
inductive LoadOrigin where
  | start | retry | reload
deriving DecidableEq, Repr

def LoadOrigin.code : LoadOrigin → Nat
  | .start => 1
  | .retry => 2
  | .reload => 3

/-- The reasons of RELOAD_REFUSED (R32), by their codes. -/
inductive ReloadReason where
  | moving | latched | recorderBusy | directiveBusy | frozen
deriving DecidableEq, Repr

def ReloadReason.code : ReloadReason → Nat
  | .moving => 1
  | .latched => 2
  | .recorderBusy => 3
  | .directiveBusy => 4
  | .frozen => 5

structure LoadResult where
  code : LoadCode
  detail : Nat
  origin : Option LoadOrigin
deriving DecidableEq, Repr

inductive LoadKind where
  | anchor | config | result
deriving DecidableEq, Repr

/-- A LOAD burst; `discard`: its response is discarded (R16, R25). -/
structure LoadBurst where
  kind : LoadKind
  burst : Transaction
  discard : Bool
deriving DecidableEq, Repr

/-! ### Demand supervisor -/

/-- R35. -/
inductive DemandMode where
  | release | service | emergency
deriving DecidableEq, Repr

def DemandMode.code : DemandMode → Nat
  | .release => 1
  | .service => 2
  | .emergency => 3

def DemandMode.ofCode : Nat → Option DemandMode
  | 1 => some .release
  | 2 => some .service
  | 3 => some .emergency
  | _ => none

inductive Policy where
  | blended | airOnly
deriving DecidableEq, Repr

def Policy.code : Policy → Nat
  | .blended => 0
  | .airOnly => 1

/-- The fields of a demand record but its sequence number and check (R35). -/
structure DemandFields where
  mode : DemandMode
  effort : Nat
  independent : Pair Nat
  policy : Policy
  inhibit : Byte
deriving DecidableEq, Repr

structure DemandRecord where
  sequence : Nat
  fields : DemandFields
deriving DecidableEq, Repr

/-- The effective demand (R50); the sequence may be NONE. -/
structure EffectiveDemand where
  sequence : Option Nat
  fields : DemandFields
deriving DecidableEq, Repr

inductive DemandState where
  | noDemand | live | stale | penalty | emergency
deriving DecidableEq, Repr

def DemandState.code : DemandState → Nat
  | .noDemand => 0
  | .live => 1
  | .stale => 2
  | .penalty => 3
  | .emergency => 4

/-- Reasons of a refused record (R37). -/
inductive RefusalReason where
  | torn | check | mode | range
deriving DecidableEq, Repr

def RefusalReason.code : RefusalReason → Nat
  | .torn => 1
  | .check => 2
  | .mode => 3
  | .range => 4

/-- R52. -/
inductive DStateCause where
  | firstRecord | record | freshness | penaltyStale | penaltyChecks | emergencyDemand | emergencyLine
  | resetPenalty | resetEmergency | reload
deriving DecidableEq, Repr

def DStateCause.code : DStateCause → Nat
  | .firstRecord => 1
  | .record => 2
  | .freshness => 3
  | .penaltyStale => 4
  | .penaltyChecks => 5
  | .emergencyDemand => 6
  | .emergencyLine => 7
  | .resetPenalty => 8
  | .resetEmergency => 9
  | .reload => 10

/-- What a hand-off of the demand supervisor marks as changed (R51). -/
inductive HandMark where
  | state | fields | sequenceAlone
deriving DecidableEq, Repr

/-- A completed demand record awaiting its check: what the buffer held at completion, and the Pmax then in force
(R36, R38, log 30). -/
structure CompletedRecord where
  beats : List BeatData
  present : List Bool
  torn : Bool
  pmax : Nat
deriving DecidableEq, Repr

/-! ### Blend, speed and slide -/

inductive GridState where
  | cool | derated | tripped
deriving DecidableEq, Repr

def GridState.code : GridState → Nat
  | .cool => 0
  | .derated => 1
  | .tripped => 2

/-- R76. -/
inductive Limiting where
  | none | policy | cutout | capability | grid | slide
deriving DecidableEq, Repr

def Limiting.code : Limiting → Nat
  | .none => 0
  | .policy => 1
  | .cutout => 2
  | .capability => 3
  | .grid => 4
  | .slide => 5

/-- The speed link's state (R80), and the air channel's (R117). -/
inductive LinkState where
  | starting | active | lost
deriving DecidableEq, Repr

def LinkState.code : LinkState → Nat
  | .starting => 0
  | .active => 1
  | .lost => 2

/-- R80: an axle's speed in 0.1 km/h, INVALID, or NONE. -/
inductive AxleSpeed where
  | none
  | invalid
  | speed (v : Nat)
deriving DecidableEq, Repr

def AxleSpeed.valid : AxleSpeed → Bool
  | .speed _ => true
  | .none | .invalid => false

inductive Direction where
  | none | rise | fall
deriving DecidableEq, Repr

inductive Cutout where
  | none | below | atOrAbove
deriving DecidableEq, Repr

inductive Standstill where
  | unknown | moving | dwelling | confirmed
deriving DecidableEq, Repr

def Standstill.code : Standstill → Nat
  | .unknown => 0
  | .moving => 1
  | .dwelling => 2
  | .confirmed => 3

inductive AxleState where
  | adhering | sliding | recovering | unsensed
deriving DecidableEq, Repr

def AxleState.code : AxleState → Nat
  | .adhering => 0
  | .sliding => 1
  | .recovering => 2
  | .unsensed => 3

inductive TruckState where
  | apply | dump | hold | reapply | fault
deriving DecidableEq, Repr

def TruckState.code : TruckState → Nat
  | .apply => 0
  | .dump => 1
  | .hold => 2
  | .reapply => 3
  | .fault => 4

/-! ### Actuator links -/

inductive TractionState where
  | starting | active | lost | releasing | released | resuming
deriving DecidableEq, Repr

def TractionState.code : TractionState → Nat
  | .starting => 0
  | .active => 1
  | .lost => 2
  | .releasing => 3
  | .released => 4
  | .resuming => 5

inductive ConverterMode where
  | underControl | localControl | fault
deriving DecidableEq, Repr

def ConverterMode.code : ConverterMode → Nat
  | .underControl => 0
  | .localControl => 1
  | .fault => 2

def ConverterMode.ofCode : Nat → Option ConverterMode
  | 0 => some .underControl
  | 1 => some .localControl
  | 2 => some .fault
  | _ => none

/-- The data of an installed DYN_REPORT (R126). -/
structure DynData where
  capability : Six Nat
  achieved : Six Nat
  temperature : Pair Nat
  mode : ConverterMode
deriving DecidableEq, Repr

/-- An entry of an outstanding command list (R120). -/
structure Outstanding where
  sequence : Nat
  reply : Timer
deriving DecidableEq, Repr

inductive Handshake where
  | none | release | resume
deriving DecidableEq, Repr

def Handshake.code : Handshake → Nat
  | .none => 0
  | .release => 1
  | .resume => 2

inductive HsOrigin where
  | directive | automatic
deriving DecidableEq, Repr

def HsOrigin.code : HsOrigin → Nat
  | .directive => 0
  | .automatic => 1

inductive CommandSource where
  | blend | test
deriving DecidableEq, Repr

def CommandSource.code : CommandSource → Nat
  | .blend => 0
  | .test => 1

inductive TestPhase where
  | none | aApply | aRelease | bApply | bRelease
deriving DecidableEq, Repr

def TestPhase.code : TestPhase → Nat
  | .none => 0
  | .aApply => 1
  | .aRelease => 2
  | .bApply => 3
  | .bRelease => 4

/-- Results of the air path test (R136), and the outcomes of its trace entries (R145). -/
inductive TestResult where
  | pass | fail | aborted
deriving DecidableEq, Repr

inductive TestOutcome where
  | started | phasePassed | ended (r : TestResult)
deriving DecidableEq, Repr

def TestResult.code : TestResult → Nat
  | .pass => 1
  | .fail => 2
  | .aborted => 3

def TestOutcome.code : TestOutcome → Nat
  | .started => 4
  | .phasePassed => 5
  | .ended r => r.code

/-- The outcome of the last test (R117). -/
structure LastTest where
  result : TestResult
  phase : TestPhase
  pressures : Pair Nat
deriving DecidableEq, Repr

/-- What a good frame brings (R116). -/
inductive GoodFrame where
  | dynReport (echo : Nat) (data : DynData)
  | releaseAck (echo : Nat)
  | airReport (echo : Nat) (pressures : Pair Nat)
  | speedSample (number time : Nat) (speeds : Six Nat)
deriving DecidableEq, Repr

/-! ### Recorder -/

/-- The calendar clock (R140). -/
structure Calendar where
  year : Nat
  month : Nat
  day : Nat
  hour : Nat
  minute : Nat
  second : Nat
  ms : Nat
deriving DecidableEq, Repr

inductive Detector where
  | clear | seen | detected
deriving DecidableEq, Repr

inductive IncidentClass where
  | serious | advisory | operator | test
deriving DecidableEq, Repr

def IncidentClass.code : IncidentClass → Nat
  | .serious => 1
  | .advisory => 2
  | .operator => 3
  | .test => 4

def IncidentClass.ofCode : Nat → Option IncidentClass
  | 1 => some .serious
  | 2 => some .advisory
  | 3 => some .operator
  | 4 => some .test
  | _ => none

/-- The higher class, SERIOUS the highest (R165). -/
def IncidentClass.higher (x y : IncidentClass) : IncidentClass := if x.code ≤ y.code then x else y

/-- A trigger line's class: an incident class or EMERGENCY (12.2). -/
inductive LineClass where
  | serious | advisory | operator | emergency
deriving DecidableEq, Repr

def LineClass.code : LineClass → Nat
  | .serious => 1
  | .advisory => 2
  | .operator => 3
  | .emergency => 5

/-- R150: a detection of class EMERGENCY is handed to incident assembly with class SERIOUS. -/
def LineClass.incident : LineClass → IncidentClass
  | .serious => .serious
  | .advisory => .advisory
  | .operator => .operator
  | .emergency => .serious

/-- Trigger causes with their details (R152). -/
inductive TriggerCause where
  | penaltyStale | penaltyChecks | emergencyDemand
  | slideTimeout (t : Truck)
  | airLost | tractionLost
  | gridTrip (t : Truck)
  | sensorLost | releaseOverrun
  | health (h : Health)
  | pathViolation (v : Violation)
  | line (l : Line)
  | software (n : Nat)
  | testResult (r : TestResult) (phase : TestPhase) (pressures : Pair Nat)
deriving DecidableEq, Repr

def TriggerCause.code : TriggerCause → Nat
  | .penaltyStale => 1
  | .penaltyChecks => 2
  | .emergencyDemand => 3
  | .slideTimeout _ => 4
  | .airLost => 5
  | .tractionLost => 6
  | .gridTrip _ => 7
  | .sensorLost => 8
  | .releaseOverrun => 9
  | .health _ => 10
  | .pathViolation _ => 11
  | .line _ => 12
  | .software _ => 13
  | .testResult _ _ _ => 14

/-- A trigger as the recorder stamped it (R155, R157). -/
structure Cause where
  cause : TriggerCause
  cls : IncidentClass
  op : Nat
  cal : Calendar
  valid : Bool
deriving DecidableEq, Repr

/-- Events of a CHANNEL entry (R145); a state change carries the code of the new state. -/
inductive ChannelEvent where
  | stateChange (new : Nat)
  | stray | late | frameDiscarded
deriving DecidableEq, Repr

/-- Trace entry contents (R145). A TRIGGER entry's class is a code, since a disarmed line's may be EMERGENCY. -/
inductive TraceKind where
  | demand (r : DemandRecord) (gap : Bool)
  | refusal (reason : RefusalReason) (sequence : Nat)
  | dstate (old new : DemandState) (cause : DStateCause)
  | blend (commanded : Pair Nat) (sum : Nat) (limiting : Limiting)
  | axle (x : Axle) (old new : AxleState) (slip : Option Nat) (speed : AxleSpeed)
  | truck (t : Truck) (old new : TruckState) (commanded : Option Nat)
  | grid (t : Truck) (old new : GridState) (temperature : Nat)
  | channel (link : Link) (event : ChannelEvent)
  | path (v : Violation) (addr : Addr)
  | watch (index offset : Nat) (data : BeatData)
  | directive (code tag : Nat) (result : DirResult)
  | trigger (cause : TriggerCause) (classCode : Nat) (armed : Bool)
  | test (phase : TestPhase) (outcome : TestOutcome)
deriving DecidableEq, Repr

structure TraceEntry where
  kind : TraceKind
  op : Nat
deriving DecidableEq, Repr

inductive RecorderState where
  | idle | opening | capturing | closing | erasing
deriving DecidableEq, Repr

def RecorderState.code : RecorderState → Nat
  | .idle => 0
  | .opening => 1
  | .capturing => 2
  | .closing => 3
  | .erasing => 4

inductive StoreState where
  | unchecked | scanning | ready | full | fault
deriving DecidableEq, Repr

def StoreState.code : StoreState → Nat
  | .unchecked => 0
  | .scanning => 1
  | .ready => 2
  | .full => 3
  | .fault => 4

inductive EntryState where
  | empty | opened | closed | interrupted | unreadable | unknown
deriving DecidableEq, Repr

/-- A directory entry, in the image or as written (R157, R158). The class is a code: 0 in an EMPTY entry, and an
entry read from memory may hold any byte. -/
structure SlotEntry where
  state : EntryState
  number : Nat
  cls : Nat
  retained : Bool
deriving DecidableEq, Repr

inductive ClosingMark where
  | normal | truncated
deriving DecidableEq, Repr

def ClosingMark.code : ClosingMark → Nat
  | .normal => 0
  | .truncated => 1

/-- What became of a trigger (R161). -/
inductive Disposition where
  | opened | appended | pending | unstored
deriving DecidableEq, Repr

/-- The open incident (R157, R162), with what was captured at its opening (pre entries, snapshot, opening class) and
fixed at its closing (mark and operating time). -/
structure Incident where
  number : Nat
  slot : Nat
  first : Cause
  openingTime : Nat
  causes : List Cause
  further : Nat
  cls : IncidentClass
  post : List TraceEntry
  window : Timer
  truncated : Bool
  openingCls : IncidentClass
  retained : Bool
  pre : List TraceEntry
  snapshot : List Byte
  closingMark : ClosingMark
  closingTime : Nat
deriving DecidableEq, Repr

/-- The pending trigger (R167). -/
structure PendingTrigger where
  first : Cause
  others : List Cause
  further : Nat
  cls : IncidentClass
deriving DecidableEq, Repr

/-- The write sequences (R159). -/
inductive Sequence where
  | opening
  | closing
  | header
  | entry (slot : Nat) (mark : Bool)
  | erase (keep : Bool)
  | scan
deriving DecidableEq, Repr

/-- The parts of the sequences (R163, R168, R173, R179, R177, R174-R176). -/
inductive Part where
  | openEntry | openHeader | slotHeader | snapshot | preEntries | partialCrc
  | postEntries | footer | closedBeat | closeEntry | closeHeader
  | headerOnly
  | entryWrite (slot : Nat) (mark : Bool)
  | eraseHeader | eraseEntries (first : Nat) (keep : Bool)
  | scanHeader | scanEntries (first : Nat) | scanSlotHeader (slot : Nat) | scanFooter (slot : Nat)
  | repairBeat (slot number : Nat) | repairEntry (slot : Nat) (entry : SlotEntry)
  | scanHeaderWrite
deriving DecidableEq, Repr

/-- A STORE burst: its part, whether it is the part's last burst, the image entries it writes, and whether its
response is discarded (R16, R171). -/
structure StoreBurst where
  part : Part
  last : Bool
  burst : Transaction
  sets : List (Nat × SlotEntry)
  discard : Bool
deriving DecidableEq, Repr

/-- The running sequence: the parts not yet asked for, and the bursts of the part asked for last that are not yet
presented (R159). -/
structure Running where
  sequence : Sequence
  parts : List Part
  bursts : List StoreBurst
deriving DecidableEq, Repr

/-- An OPEN entry the scan has read and must repair (R175). -/
structure Repair where
  slot : Nat
  entry : SlotEntry
deriving DecidableEq, Repr

/-- Progress of the store scan (R174-R176): the header as read, the first slot not yet read, the entries awaiting
repair, the first beat of the slot header and the class byte of the footer read for the first of them. -/
structure Scan where
  header : List Byte
  next : Nat
  repairs : List Repair
  slotBeat : List Byte
  footerClass : Nat
deriving DecidableEq, Repr

structure ClassCounts where
  serious : Nat
  advisory : Nat
  operator : Nat
  test : Nat
deriving DecidableEq, Repr

/-! ### Retention and status -/

inductive Verdict where
  | sound | advisory | preFailure
deriving DecidableEq, Repr

def Verdict.code : Verdict → Nat
  | .sound => 0
  | .advisory => 1
  | .preFailure => 2

/-- The fourteen event flags (R198). -/
inductive EventFlag where
  | demandStale | penalty | emergency | slide | slideFault | grid | linkLost | sensorLost | incidentClosed
  | storeAlert | attributeExceeded | directiveDone | pathViolation | clockInvalid
deriving DecidableEq, Repr

/-- The flag's position (12.2). -/
def EventFlag.position : EventFlag → Nat
  | .demandStale => 0
  | .penalty => 1
  | .emergency => 2
  | .slide => 3
  | .slideFault => 4
  | .grid => 5
  | .linkLost => 6
  | .sensorLost => 7
  | .incidentClosed => 8
  | .storeAlert => 9
  | .attributeExceeded => 10
  | .directiveDone => 11
  | .pathViolation => 12
  | .clockInvalid => 13

/-- What the part puts out at its ports (log 6). -/
inductive Emission where
  | response (r : Response) (data : List BeatData)
  | frame (link : Link) (bytes : List Byte)
  | memory (t : Transaction)
deriving DecidableEq, Repr

end Sys2Proof.Machine
end

