-- ==== Sys2Proof/Machine/Params.lean ====
section
/-! DEFINITION. The parameters in force: fields 9 to 69 of the configuration record (section 2.4), and their defaults. -/

namespace Sys2Proof.Machine

/-- Debounce of a trigger line (12.2). -/
inductive Debounce where
  | none | ms4 | ms16 | ms50
deriving DecidableEq, Repr

/-- The debounce period in ms; NONE has none. -/
def Debounce.period : Debounce → Option Nat
  | .none => Option.none
  | .ms4 => some 4
  | .ms16 => some 16
  | .ms50 => some 50

/-- Fields 55 to 57. -/
structure LineConfig where
  activeLow : Bool
  debounce : Debounce
  repeating : Bool
  cls : LineClass
  armedAtLoad : Bool
deriving DecidableEq, Repr

/-- Fields 62 to 69: a threshold (0 means none), and whether the kind is PRE_FAILURE. -/
structure HealthConfig where
  threshold : Nat
  preFailure : Bool
deriving DecidableEq, Repr

/-- Field 59. -/
inductive IndicationSource where
  | flag (f : EventFlag)
  | latched
  | direct
deriving DecidableEq, Repr

def IndicationSource.code : IndicationSource → Nat
  | .flag f => f.position
  | .latched => 14
  | .direct => 15

structure Params where
  freshness : Nat
  grace : Nat
  failLimit : Nat
  gain : Pair Nat
  pmax : Nat
  penalty : Nat
  emergency : Nat
  holdPressure : Nat
  cutout : Nat
  emergencyDynamic : Bool
  recoveryFraction : Nat
  derate : Nat
  trip : Nat
  resetTemp : Nat
  deceleration : Nat
  rise : Nat
  standstillSpeed : Nat
  standstillDwell : Nat
  sensorTimeout : Nat
  armingFloor : Nat
  slipOn : Nat
  slipOff : Nat
  ratioOn : Nat
  recoveryDwell : Nat
  holdDwell : Nat
  reapplyDwell : Nat
  reapplyFraction : Nat
  maxRelease : Nat
  replyTimeout : Nat
  missLimit : Nat
  restoreCount : Nat
  keepalive : Nat
  releaseTimeout : Nat
  testPressure : Nat
  testTolerance : Nat
  phaseTimeout : Nat
  postCount : Nat
  captureWindow : Nat
  pressureStep : Nat
  dynamicStep : Nat
  watchTracing : Bool
  slots : Nat
  autoRetain : Bool
  storeHigh : Bool
  waitLimit : Nat
  lines : Three LineConfig
  enableSet : BitVec 16
  source : IndicationSource
  invert : Bool
  activation : Nat
  health : Eight HealthConfig
deriving DecidableEq, Repr

/-- Default of fields 55 to 57. -/
def defaultLine : LineConfig := ⟨false, .ms16, false, .advisory, false⟩

/-- The defaults of the field table (section 2.4, R30). Speeds and limits are in 0.1 km/h, the standstill dwell and
the capture window in s, as in the record. -/
def defaultParams : Params where
  freshness := 200
  grace := 500
  failLimit := 3
  gain := ⟨40, 40⟩
  pmax := 380
  penalty := 300
  emergency := 450
  holdPressure := 150
  cutout := 50
  emergencyDynamic := false
  recoveryFraction := 50
  derate := 560
  trip := 640
  resetTemp := 480
  deceleration := 25
  rise := 15
  standstillSpeed := 5
  standstillDwell := 10
  sensorTimeout := 150
  armingFloor := 30
  slipOn := 30
  slipOff := 15
  ratioOn := 8
  recoveryDwell := 500
  holdDwell := 300
  reapplyDwell := 600
  reapplyFraction := 60
  maxRelease := 4000
  replyTimeout := 20
  missLimit := 3
  restoreCount := 2
  keepalive := 50
  releaseTimeout := 2000
  testPressure := 250
  testTolerance := 20
  phaseTimeout := 3000
  postCount := 16
  captureWindow := 10
  pressureStep := 10
  dynamicStep := 5
  watchTracing := false
  slots := 64
  autoRetain := true
  storeHigh := false
  waitLimit := 4
  lines := ⟨defaultLine, defaultLine, defaultLine⟩
  enableSet := 0
  source := .direct
  invert := false
  activation := 0
  health := Eight.all ⟨0, false⟩

end Sys2Proof.Machine
end

