-- ==== Sys2Proof/Machine/State.lean ====
section
/-! DEFINITION. The state of the part, unit by unit, the reasons a command could stop (none does), and the state at
reset. Each field cites the rule of spec/ that names it in INVENTORY.md. -/

namespace Sys2Proof.Machine

/-- The part has no fault that stops it: what the manual calls FAULT are states it goes on in (log 37). No command
raises one, so the type has no constructor. -/
inductive Fault where
deriving DecidableEq, Repr

/-- Reasons for a refusal. -/
inductive Refusal where
  /-- Raised by no command of this model: every row has its meaning. Safe: it would stop the machine. -/
  | notModelled (mnemonic : String)
deriving DecidableEq, Repr

/-- The input lines that are sensed at all times (R22). -/
structure Inputs where
  powerOnReset : Bool
  coreReset : Bool
  powerFail : Bool
deriving DecidableEq, Repr

/-- R3, R1, R10. -/
structure PathUnit where
  st : PathState
  windows : Option (List Window)
  held : Option Held
deriving DecidableEq, Repr

/-- The burst that holds the memory-side port (R2). -/
inductive PortBurst where
  | pass (t : Transaction)
  | store (b : StoreBurst)
  | load (b : LoadBurst)
deriving DecidableEq, Repr

/-- The memory-side arbiter: the port, the waiting claims and the wait counts (R2, R14, R15). -/
structure Arbiter where
  port : Option PortBurst
  pass : Option Transaction
  store : Option StoreBurst
  load : Option LoadBurst
  storeWait : Nat
  passWait : Nat
deriving DecidableEq, Repr

/-- Section 1.6, R19, R21. -/
structure Decoder where
  asm : Assembly
  slot : Option Slot
  aborts : List Nat
  last : LastResult
  abandoned : Option (Nat × DirectiveCode)
deriving DecidableEq, Repr

/-- R24, R25, R31. -/
structure Loader where
  st : LoaderState
  anchor : Addr
  configAddr : Addr
  candidate : List BeatData
  checked : Bool
  origin : LoadOrigin
  result : LoadResult
  reached : Bool
  queue : List LoadBurst
  requests : Nat
  configFault : Bool
deriving DecidableEq, Repr

/-- Chapter 3, what the demand supervisor holds. -/
structure DemandUnit where
  asm : Assembly
  inbox : List CompletedRecord
  last : Option DemandRecord
  failCount : Nat
  freshness : Timer
  grace : Timer
  st : DemandState
  penaltyLatch : Bool
  emergencyLatch : Bool
  held : Option (Pair Nat)
  effective : EffectiveDemand
deriving DecidableEq, Repr

/-- R58. -/
structure BlendUnit where
  targets : Six Nat
  pressure : Pair Nat
  commanded : Pair Nat
  held : Pair (Option Nat)
  grid : Pair GridState
  traced : Option (Pair Nat × Nat)
  handedTargets : Option (Six Nat)
  handedAir : Option (Pair Nat)
  handedSlide : Option (Pair Nat)
deriving DecidableEq, Repr

/-- R80. -/
structure SpeedUnit where
  link : LinkState
  number : Option Nat
  time : Option Nat
  sensor : Timer
  axles : Six AxleSpeed
  slips : Six (Option Nat)
  reference : Option Nat
  remainder : Nat
  direction : Direction
  cutout : Cutout
  standstill : Standstill
  dwell : Timer
deriving DecidableEq, Repr

/-- R95. -/
structure SlideUnit where
  armed : Bool
  axles : Six AxleState
  recovery : Six Timer
  trucks : Pair TruckState
  hold : Pair Timer
  reapply : Pair Timer
  release : Pair Timer
  commanded : Option (Pair Nat)
deriving DecidableEq, Repr

/-- R117, the traction channel. -/
structure TractionChannel where
  st : TractionState
  sendSeq : Nat
  list : List Outstanding
  miss : Nat
  good : Nat
  keepalive : Timer
  values : Option (Six Nat)
  last : Option DynData
  hsKind : Handshake
  hsOrigin : HsOrigin
  hsSeq : Option Nat
  hsTimer : Timer
deriving DecidableEq, Repr

/-- R117, the air channel. -/
structure AirChannel where
  st : LinkState
  sendSeq : Nat
  list : List Outstanding
  miss : Nat
  good : Nat
  keepalive : Timer
  values : Option (Pair Nat)
  last : Option (Pair Nat)
  source : CommandSource
  phase : TestPhase
  phaseTimer : Timer
  lastTest : Option LastTest
deriving DecidableEq, Repr

/-- The frame being received on each link, from its start delimiter; empty while the receiver looks for one (R209). -/
structure Receivers where
  traction : List Byte
  air : List Byte
  speed : List Byte
deriving DecidableEq, Repr

/-- R139 to R141. -/
structure Clock where
  op : Nat
  cal : Calendar
  valid : Bool
deriving DecidableEq, Repr

/-- R147; `input` is the level at the line's input. -/
structure LineState where
  input : Bool
  detector : Detector
  armed : Bool
  debounce : Timer
deriving DecidableEq, Repr

/-- R143, R157. -/
structure Recorder where
  ring : List TraceEntry
  st : RecorderState
  store : StoreState
  image : List SlotEntry
  nextSlot : Nat
  incident : Option Incident
  waiting : Option PendingTrigger
  running : Option Running
  queue : List Sequence
  scan : Option Scan
  stale : Bool
  lifetime : Nat
  classCounts : ClassCounts
  unstored : Nat
  lastUnstored : Option Cause
deriving DecidableEq, Repr

/-- R182. -/
structure Retention where
  maintenance : Option (BitVec 64)
  authority : Option (BitVec 64)
  strict : Bool
  failed : Nat
  lock : Bool
  frozen : Bool
  counts : Eight Nat
  exceeded : Eight Bool
  verdict : Verdict
  inHand : Option (Nat × Bool)
deriving DecidableEq, Repr

/-- R198, R203, R202. -/
structure StatusUnit where
  flags : BitVec 16
  direct : Bool
  demandHanded : DemandState
deriving DecidableEq, Repr

structure State where
  inputs : Inputs
  params : Params
  path : PathUnit
  arb : Arbiter
  decoder : Decoder
  loader : Loader
  demand : DemandUnit
  blend : BlendUnit
  speed : SpeedUnit
  slide : SlideUnit
  traction : TractionChannel
  air : AirChannel
  rx : Receivers
  clock : Clock
  lines : Three LineState
  recorder : Recorder
  retention : Retention
  status : StatusUnit
  /-- The MODEL's own: how many events that may use a free value have been taken (log 16, log 17). -/
  free : Nat
  emitted : List Emission
  pending : List Instr
deriving DecidableEq, Repr

/-- The NO_DEMAND demand (R50). -/
def EffectiveDemand.noDemand : EffectiveDemand := ⟨none, ⟨.release, 0, ⟨0, 0⟩, .blended, 0⟩⟩

/-- 2000-01-01 00:00:00.000 (R140). -/
def Calendar.first : Calendar := ⟨2000, 1, 1, 0, 0, 0, 0⟩

/-- An image entry the recorder has not read (R157). -/
def SlotEntry.unread : SlotEntry := ⟨.unknown, 0, 0, false⟩

/-- The power-on state of the part as shipped, with the power-on reset asserted (R22, log 1). Values the manual gives
no reset value: log 7. -/
def State.reset : State where
  inputs := ⟨true, false, false⟩
  params := defaultParams
  path := ⟨.transparent, none, none⟩
  arb := ⟨none, none, none, none, 0, 0⟩
  decoder := ⟨⟨[0, 0, 0, 0], [false, false, false], false⟩, none, [], ⟨0, 0, .none⟩, none⟩
  loader := ⟨.idle, 0, 0, [], false, .start, ⟨.none, 0, none⟩, false, [], 0, false⟩
  demand := ⟨⟨[0, 0, 0, 0, 0, 0, 0, 0], [false, false, false, false, false, false, false], false⟩, [], none, 0,
    .stopped, .stopped, .noDemand, false, false, none, .noDemand⟩
  blend := ⟨Six.all 0, ⟨0, 0⟩, ⟨0, 0⟩, ⟨none, none⟩, ⟨.cool, .cool⟩, none, none, none, none⟩
  speed := ⟨.starting, none, none, .stopped, Six.all .none, Six.all none, none, 0, .none, .none, .unknown, .stopped⟩
  slide := ⟨false, Six.all .unsensed, Six.all .stopped, ⟨.apply, .apply⟩, ⟨.stopped, .stopped⟩,
    ⟨.stopped, .stopped⟩, ⟨.stopped, .stopped⟩, none⟩
  traction := ⟨.starting, 0, [], 0, 0, .stopped, none, none, .none, .directive, none, .stopped⟩
  air := ⟨.starting, 0, [], 0, 0, .stopped, none, none, .blend, .none, .stopped, none⟩
  rx := ⟨[], [], []⟩
  clock := ⟨0, .first, false⟩
  lines := ⟨⟨false, .clear, false, .stopped⟩, ⟨false, .clear, false, .stopped⟩, ⟨false, .clear, false, .stopped⟩⟩
  recorder := ⟨[], .idle, .unchecked, List.replicate 64 .unread, 0, none, none, none, [], none, false, 0,
    ⟨0, 0, 0, 0⟩, 0, none⟩
  retention := ⟨none, none, false, 0, false, false, Eight.all 0, Eight.all false, .sound, none⟩
  status := ⟨0, false, .noDemand⟩
  free := 0
  emitted := []
  pending := []

end Sys2Proof.Machine
end

