-- ==== Sys2Proof/Machine/Bytes.lean ====
section
/-! DEFINITION. Bytes, little-endian fields, the CRC and the checksum (section 12.1). -/

namespace Sys2Proof.Machine

/-- The n low bytes of v, the least significant first (R205). -/
def leBytes : Nat → Nat → List Byte
  | 0, _ => []
  | n + 1, v => BitVec.ofNat 8 v :: leBytes n (v / 256)

/-- The number that little-endian bytes hold (R205). -/
def leNat : List Byte → Nat
  | [] => 0
  | b :: bs => b.toNat + 256 * leNat bs

/-- The bytes at offsets off to off + n - 1. -/
def slice (off n : Nat) (bs : List Byte) : List Byte := (bs.drop off).take n

/-- The number in the n-byte field at an offset. -/
def field (off n : Nat) (bs : List Byte) : Nat := leNat (slice off n bs)

/-- The 8 bytes of a beat, lowest address first. -/
def beatBytes (d : BeatData) : List Byte := leBytes 8 d.toNat

/-- The beat that 8 bytes make. -/
def beatOf (bs : List Byte) : BeatData := BitVec.ofNat 64 (leNat bs)

def beatsBytes (ds : List BeatData) : List Byte := ds.flatMap beatBytes

/-- The first n beats of a run of bytes. -/
def toBeats : Nat → List Byte → List BeatData
  | 0, _ => []
  | n + 1, bs => beatOf (bs.take 8) :: toBeats n (bs.drop 8)

/-- The first n bytes of a run, zeros beyond its end. -/
def padTo (n : Nat) (bs : List Byte) : List Byte := (bs ++ List.replicate (n - bs.length) 0).take n

/-- n bytes of zero. -/
def zeros (n : Nat) : List Byte := List.replicate n 0

/-- The bytes of a beat with each byte not enabled taken as zero (R8). -/
def maskedBeat (b : WriteBeat) : BeatData :=
  beatOf ((beatBytes b.data).zipIdx.map fun p => if b.enables.getLsbD p.2 then p.1 else 0)

/-- A full-beat write has all 8 byte enables set (00_scope). -/
def fullBeat (b : WriteBeat) : Bool := b.enables == 0xFF#8

/-- One step of the CRC register (R205). -/
def crcStep (r : Nat) : Nat := (r >>> 1) ^^^ ((r % 2) * 0xEDB88320)

/-- One byte into the CRC register (R205). -/
def crcByte (r : Nat) (b : Byte) : Nat :=
  crcStep (crcStep (crcStep (crcStep (crcStep (crcStep (crcStep (crcStep (r ^^^ b.toNat))))))))

/-- The CRC of a run of bytes (R205). -/
def crc32 (bs : List Byte) : Nat := (bs.foldl crcByte 0xFFFFFFFF) ^^^ 0xFFFFFFFF

/-- The sum of bytes modulo 256 (R206). -/
def byteSum (bs : List Byte) : Nat := (bs.foldl (fun n b => n + b.toNat) 0) % 256

/-- R206: a checksum holds when the sum of the covered bytes, itself included, is 0 modulo 256. -/
def checksumHolds (bs : List Byte) : Bool := byteSum bs == 0

/-- R206: the checksum byte over the other covered bytes. -/
def checksumOf (bs : List Byte) : Nat := (256 - byteSum bs) % 256

/-- A quantity in a field of n bytes; NONE is all ones (R207). -/
def optBytes (n : Nat) : Option Nat → List Byte
  | some v => leBytes n v
  | none => List.replicate n 0xFF

/-- YES and ON are 1, NO and OFF are 0 (12.2). That a mark or latch SET, a level ACTIVE, a line asserted and a report
present are 1 as well is the model's choice (log 19). -/
def boolByte (b : Bool) : List Byte := [if b then 1 else 0]

/-- A code or a count in one byte. -/
def byte1 (v : Nat) : List Byte := leBytes 1 v

/-- A number or count in two bytes. -/
def byte2 (v : Nat) : List Byte := leBytes 2 v

/-- A number or count in four bytes. -/
def byte4 (v : Nat) : List Byte := leBytes 4 v

/-- A count that stays at its greatest value (saturating). -/
def satAdd (limit v : Nat) : Nat := if v < limit then v + 1 else v

end Sys2Proof.Machine
end

