-- ==== Sys2Proof/Machine/Operands.lean ====
section
/-! DEFINITION. The layouts of what the part writes: stamped causes, trace entries, the store's records and the link
frames (sections 12.8 to 12.10). -/

namespace Sys2Proof.Machine

/-- Year, month, day, hour, minute, second and millisecond, 9 bytes (12.8). -/
def Calendar.bytes (c : Calendar) : List Byte :=
  byte2 c.year ++ byte1 c.month ++ byte1 c.day ++ byte1 c.hour ++ byte1 c.minute ++ byte1 c.second ++ byte2 c.ms

/-- The 6 detail bytes of a cause (12.8). -/
def TriggerCause.detail : TriggerCause → List Byte
  | .slideTimeout t => padTo 6 (byte1 (truckCode t))
  | .gridTrip t => padTo 6 (byte1 (truckCode t))
  | .health h => padTo 6 (byte1 h.code)
  | .pathViolation v => padTo 6 (byte1 v.code)
  | .line l => padTo 6 (byte1 (lineCode l))
  | .software n => padTo 6 (byte1 n)
  | .testResult r ph p => byte1 r.code ++ byte1 ph.code ++ byte2 p.a ++ byte2 p.b
  | .penaltyStale | .penaltyChecks | .emergencyDemand | .airLost | .tractionLost | .sensorLost | .releaseOverrun =>
    zeros 6

/-- A stamped cause, 24 bytes (12.8). -/
def Cause.bytes (c : Cause) : List Byte :=
  padTo 24 (byte1 c.cause.code ++ byte1 c.cls.code ++ c.cause.detail ++ byte4 c.op ++ c.cal.bytes ++ boolByte c.valid)

/-- Dynamic inhibit and fields of a demand (12.9). -/
def DemandRecord.traceBytes (r : DemandRecord) (gap : Bool) : List Byte :=
  byte2 r.sequence ++ byte1 r.fields.mode.code ++ byte2 r.fields.effort ++ byte2 r.fields.independent.a ++
    byte2 r.fields.independent.b ++ [r.fields.inhibit] ++
    byte1 (r.fields.policy.code + if gap then 2 else 0)

def ChannelEvent.bytes : ChannelEvent → List Byte
  | .stateChange new => byte1 0 ++ byte1 new
  | .stray => [1, 0xFF]
  | .late => [2, 0xFF]
  | .frameDiscarded => [3, 0xFF]

/-- An axle's speed: INVALID is FFFE, NONE all ones (R207). -/
def AxleSpeed.bytes : AxleSpeed → List Byte
  | .none => [0xFF, 0xFF]
  | .invalid => [0xFE, 0xFF]
  | .speed v => byte2 v

/-- Kind number and contents of a trace entry (12.9). -/
def TraceKind.bytes : TraceKind → List Byte
  | .demand r gap => byte1 1 ++ r.traceBytes gap
  | .refusal reason s => byte1 2 ++ byte1 reason.code ++ byte2 s
  | .dstate old new cause => byte1 3 ++ byte1 old.code ++ byte1 new.code ++ byte1 cause.code
  | .blend p sum l => byte1 4 ++ byte2 p.a ++ byte2 p.b ++ byte2 sum ++ byte1 l.code
  | .axle x old new slip speed =>
    byte1 5 ++ byte1 (axleCode x) ++ byte1 old.code ++ byte1 new.code ++ optBytes 2 slip ++ speed.bytes
  | .truck t old new p => byte1 6 ++ byte1 (truckCode t) ++ byte1 old.code ++ byte1 new.code ++ optBytes 2 p
  | .grid t old new temp => byte1 7 ++ byte1 (truckCode t) ++ byte1 old.code ++ byte1 new.code ++ byte2 temp
  | .channel l e => byte1 8 ++ byte1 (linkCode l) ++ e.bytes
  | .path v a => byte1 9 ++ byte1 v.code ++ byte4 a.toNat
  | .watch i off d => byte1 10 ++ leBytes 3 (i * 1048576 + off) ++ beatBytes d
  | .directive code tag r => byte1 11 ++ byte1 code ++ byte2 tag ++ byte1 r.code
  | .trigger c cls armed => byte1 12 ++ byte1 c.code ++ byte1 cls ++ boolByte armed ++ c.detail
  | .test ph o => byte1 13 ++ byte1 ph.code ++ byte1 o.code

/-- A trace entry, 16 bytes (12.9). -/
def TraceEntry.bytes (e : TraceEntry) : List Byte := padTo 12 e.kind.bytes ++ byte4 e.op

/-! ### The store (12.8) -/

/-- The code of an entry's state; UNREADABLE and UNKNOWN, which nothing writes, have the model's own (log 52). -/
def EntryState.code : EntryState → Nat
  | .empty => 0
  | .opened => 1
  | .closed => 2
  | .interrupted => 3
  | .unreadable | .unknown => 255

/-- A directory entry, 8 bytes (12.8). -/
def SlotEntry.bytes (e : SlotEntry) : List Byte :=
  let front := byte1 e.state.code ++ boolByte e.retained ++ byte1 e.cls
  let number := byte4 e.number
  front ++ byte1 (checksumOf (front ++ number)) ++ number

/-- The directory header, 64 bytes (12.8). -/
def headerBytes (n next lifetime : Nat) (c : ClassCounts) (unstored : Nat) (last : Option Cause) : List Byte :=
  let front := byte4 0x53544F31 ++ byte2 n ++ byte2 next ++ byte4 lifetime ++
    byte2 c.serious ++ byte2 c.advisory ++ byte2 c.operator ++ byte2 c.test ++ byte2 unstored ++
    match last with
    | some x => [1, 0] ++ x.bytes
    | none => zeros 26
  let body := padTo 63 front
  body ++ byte1 (checksumOf body)

/-- The slot header, bytes 0 to 63 of a slot, written by part 3 of the OPEN sequence (R163, 12.8). -/
def Incident.slotHeader (i : Incident) : List Byte :=
  padTo 64 ([1, 0, 0, 0] ++ byte4 i.number ++ i.first.bytes ++ byte4 i.openingTime ++ byte1 i.pre.length)

/-- The slot's first beat with a state code and a number (12.8). -/
def slotFirstBeat (code number : Nat) : List Byte := byte1 code ++ zeros 3 ++ byte4 number

def Incident.preBytes (i : Incident) : List Byte := i.pre.flatMap TraceEntry.bytes

def Incident.postBytes (i : Incident) : List Byte := i.post.flatMap TraceEntry.bytes

/-- R208: what the partial CRC covers. -/
def Incident.partialCover (i : Incident) : List Byte := i.slotHeader.drop 4 ++ i.snapshot ++ i.preBytes

/-- Bytes 960 to 967 of the slot: the partial CRC and 4 zeros (R208). -/
def Incident.partialBytes (i : Incident) : List Byte := byte4 (crc32 i.partialCover) ++ zeros 4

/-- The footer without its CRC, bytes 1352 to 1463 (12.8). -/
def Incident.footerFront (i : Incident) : List Byte :=
  padTo 16 (byte1 i.cls.code ++ byte1 i.causes.length ++ byte1 i.further ++ byte1 i.post.length ++
    byte1 i.closingMark.code ++ zeros 3 ++ byte4 i.closingTime) ++ padTo 96 (i.causes.flatMap Cause.bytes)

/-- The footer, bytes 1352 to 1467 (12.8, R208). -/
def Incident.footerBytes (i : Incident) : List Byte :=
  i.footerFront ++ byte4 (crc32 (i.partialCover ++ i.partialBytes ++ i.postBytes ++ i.footerFront))

/-! ### Link frames (12.10, R115) -/

/-- A frame: delimiter, kind, sequence, length, payload and CRC (12.10). -/
def frameBytes (kind seq : Nat) (payload : List Byte) : List Byte :=
  let body := byte1 kind ++ byte1 seq ++ byte1 payload.length ++ payload
  0x7E :: body ++ byte4 (crc32 body)

def dynCommandFrame (seq : Nat) (v : Six Nat) : List Byte := frameBytes 0x11 seq (v.toList.flatMap byte1)

def releaseRequestFrame (seq : Nat) : List Byte := frameBytes 0x12 seq []

def resumeRequestFrame (seq : Nat) : List Byte := frameBytes 0x13 seq []

def airCommandFrame (seq : Nat) (v : Pair Nat) : List Byte := frameBytes 0x31 seq (byte2 v.a ++ byte2 v.b)

end Sys2Proof.Machine
end

