-- ==== Sys2Proof/Machine/Flags.lean ====
section
/-! DEFINITION. The event flags, the output lines that follow from State, and the verdict (chapter 11, R49, R194). -/

namespace Sys2Proof.Machine

/-- Either reset is asserted (R22). -/
def State.anyReset (s : State) : Bool := s.inputs.powerOnReset || s.inputs.coreReset

/-- The mask of a flag: 2 to the power of its position (R207). -/
def EventFlag.mask (f : EventFlag) : BitVec 16 := 1#16 <<< f.position

def flagSet (flags : BitVec 16) (f : EventFlag) : Bool := flags &&& f.mask != 0

/-- R198: a request to set a flag; dropped while a reset is asserted. -/
def setFlag (f : EventFlag) (s : State) : State :=
  if s.anyReset then s else { s with status := { s.status with flags := s.status.flags ||| f.mask } }

/-- R199: the named flags are cleared. -/
def clearFlags (named : BitVec 16) (s : State) : State :=
  { s with status := { s.status with flags := s.status.flags &&& ~~~ named } }

/-- R201. -/
def State.attention (s : State) : Bool := !s.anyReset && (s.status.flags &&& s.params.enableSet) != 0

/-- R202: the condition of the indication source holds. -/
def State.indicationCondition (s : State) : Bool :=
  match s.params.source with
  | .flag f => flagSet s.status.flags f
  | .latched => s.status.demandHanded == .penalty || s.status.demandHanded == .emergency
  | .direct => s.status.direct

/-- R202. -/
def State.indication (s : State) : Bool :=
  !s.anyReset && s.params.activation == 0x5A && s.indicationCondition != s.params.invert

/-- R204. -/
def State.faultLine (s : State) : Bool := s.loader.configFault

/-- R49: the vent line follows the emergency latch. -/
def State.vent (s : State) : Bool := s.demand.emergencyLatch

/-- R147: a line's level is ACTIVE while its input is as its polarity says. -/
def lineActive (c : LineConfig) (l : LineState) : Bool := l.input != c.activeLow

/-- R194. -/
def verdictOf (c : Eight HealthConfig) (exceeded : Eight Bool) : Verdict :=
  if allHealth.any (fun h => exceeded.get h && (c.get h).preFailure) then .preFailure
  else if allHealth.any (fun h => exceeded.get h) then .advisory
  else .sound

/-- R196: the status a count has under a threshold. -/
def exceededOf (c : HealthConfig) (count : Nat) : Bool := c.threshold != 0 && c.threshold ≤ count

/-- Standstill is confirmed (R80). -/
def State.standing (s : State) : Bool := s.speed.standstill == .confirmed

end Sys2Proof.Machine
end

