-- ==== Sys2Proof/Machine/Image.lean ====
section
/-! DEFINITION. The status image (R197, section 12.7) and the incident's snapshot (12.8), group by group. -/

namespace Sys2Proof.Machine

/-- The axle group of axle x (12.7). -/
def State.axleGroup (s : State) (x : Axle) : List Byte :=
  (s.speed.axles.get x).bytes ++ optBytes 2 (s.speed.slips.get x) ++ byte1 (s.slide.axles.get x).code ++
    byte1 (s.blend.targets.get x) ++ optBytes 1 (s.traction.last.map fun d => d.achieved.get x) ++
    optBytes 1 (s.traction.last.map fun d => d.capability.get x)

/-- The truck group of truck t (12.7). -/
def State.truckGroup (s : State) (t : Truck) : List Byte :=
  byte2 (s.blend.pressure.get t) ++ byte2 (s.blend.commanded.get t) ++ optBytes 2 (s.air.last.map fun p => p.get t) ++
    byte1 (s.slide.trucks.get t).code ++ byte1 (s.blend.grid.get t).code ++
    optBytes 2 (s.traction.last.map fun d => d.temperature.get t)

def State.axleGroups (s : State) : List Byte := allAxles.flatMap s.axleGroup

def State.truckGroups (s : State) : List Byte := s.truckGroup .a ++ s.truckGroup .b

/-- The 128-byte snapshot of an incident (12.8). -/
def State.snapshot (s : State) : List Byte :=
  padTo 128 (padTo 48 s.axleGroups ++ padTo 20 s.truckGroups ++
    optBytes 2 s.speed.reference ++ byte1 s.speed.standstill.code ++ byte1 s.traction.st.code ++
    byte1 s.air.st.code ++ byte1 s.speed.link.code ++ byte1 s.demand.st.code)

def State.identityGroup : List Byte := byte2 Config.partCode ++ byte1 Config.revision

def State.loadGroup (s : State) : List Byte :=
  byte1 s.path.st.code ++ byte1 s.loader.st.code ++ byte1 s.loader.result.code.code ++ byte1 s.loader.result.detail ++
    optBytes 1 (s.loader.result.origin.map LoadOrigin.code) ++ boolByte s.loader.reached

def State.demandGroup (s : State) : List Byte :=
  let e := s.demand.effective
  byte1 s.demand.st.code ++ boolByte s.demand.penaltyLatch ++ boolByte s.demand.emergencyLatch ++
    byte1 s.demand.failCount ++ optBytes 4 (s.demand.last.map DemandRecord.sequence) ++
    optBytes 4 e.sequence ++ byte1 e.fields.mode.code ++ byte1 e.fields.policy.code ++ byte2 e.fields.effort ++
    byte2 e.fields.independent.a ++ byte2 e.fields.independent.b ++ [e.fields.inhibit]

def State.speedGroup (s : State) : List Byte :=
  byte1 s.speed.link.code ++ optBytes 2 s.speed.reference ++ byte1 s.speed.standstill.code ++ boolByte s.slide.armed

/-- The outcome of the last test: result, phase reached, pressures. -/
def lastTestBytes : Option LastTest → List Byte
  | some t => byte1 t.result.code ++ byte1 t.phase.code ++ byte2 t.pressures.a ++ byte2 t.pressures.b
  | none => [0, 0, 0xFF, 0xFF, 0xFF, 0xFF]

/-- The last traction report as shown (12.7). -/
def dynDataBytes : Option DynData → List Byte
  | some d => [1] ++ byte1 d.mode.code ++ d.capability.toList.flatMap byte1 ++ d.achieved.toList.flatMap byte1 ++
      byte2 d.temperature.a ++ byte2 d.temperature.b
  | none => 0 :: List.replicate 17 0xFF

/-- The last air report as shown (12.7). -/
def airDataBytes : Option (Pair Nat) → List Byte
  | some p => [1] ++ byte2 p.a ++ byte2 p.b
  | none => 0 :: List.replicate 4 0xFF

def State.linkGroup (s : State) : List Byte :=
  byte1 s.traction.st.code ++ byte1 s.traction.miss ++ byte1 s.traction.good ++
    byte1 s.air.st.code ++ byte1 s.air.miss ++ byte1 s.air.good ++
    byte1 s.traction.hsKind.code ++ byte1 s.traction.hsOrigin.code ++ byte1 s.air.phase.code ++
    byte1 s.air.source.code ++ lastTestBytes s.air.lastTest ++ dynDataBytes s.traction.last ++ airDataBytes s.air.last

def State.lineGroup (s : State) (l : Line) : List Byte :=
  boolByte (lineActive (s.params.lines.get l) (s.lines.get l)) ++ boolByte (s.lines.get l).armed

def State.recorderGroup (s : State) : List Byte :=
  byte1 s.recorder.st.code ++ byte1 s.recorder.store.code ++ byte4 ((s.recorder.incident.map Incident.number).getD 0) ++
    byte4 s.recorder.lifetime ++ byte2 s.recorder.nextSlot ++ byte2 s.recorder.unstored

def State.healthGroup (s : State) (h : Health) : List Byte :=
  byte2 (s.retention.counts.get h) ++ byte2 (s.params.health.get h).threshold ++
    boolByte (s.params.health.get h).preFailure ++ boolByte (s.retention.exceeded.get h)

def State.keyGroup (s : State) : List Byte :=
  boolByte s.retention.maintenance.isSome ++ boolByte s.retention.authority.isSome ++ boolByte s.retention.strict ++
    byte1 s.retention.failed ++ boolByte s.retention.lock ++ boolByte s.retention.frozen

def State.directiveGroup (s : State) : List Byte :=
  byte2 s.decoder.last.tag ++ byte1 s.decoder.last.code ++ byte1 s.decoder.last.result.code ++
    boolByte s.decoder.slot.isSome ++ optBytes 1 (s.decoder.slot.map fun x => x.code.code) ++
    optBytes 2 (s.decoder.slot.map Slot.tag)

def State.timeGroup (s : State) : List Byte := s.clock.cal.bytes ++ boolByte s.clock.valid ++ byte4 s.clock.op

def State.statusGroup (s : State) : List Byte :=
  byte2 s.status.flags.toNat ++ byte2 s.params.enableSet.toNat ++ byte1 s.params.source.code ++
    boolByte s.params.invert ++ byte1 s.params.activation ++ boolByte s.status.direct ++ boolByte s.attention ++
    boolByte s.indication ++ boolByte s.faultLine

/-- The status image, 1024 bytes (R197, 12.7): each group padded to the start of the next. -/
def State.image (s : State) : List Byte :=
  padTo 1024 (padTo 8 State.identityGroup ++ padTo 8 s.loadGroup ++ padTo 24 s.demandGroup ++ padTo 48 s.axleGroups ++
    padTo 56 s.truckGroups ++ padTo 8 s.speedGroup ++ padTo 64 s.linkGroup ++
    padTo 8 (s.lineGroup .l1 ++ s.lineGroup .l2 ++ s.lineGroup .l3) ++ padTo 16 s.recorderGroup ++
    padTo 48 (allHealth.flatMap s.healthGroup) ++ padTo 8 (byte1 s.retention.verdict.code) ++ padTo 8 s.keyGroup ++
    padTo 8 s.directiveGroup ++ padTo 16 s.timeGroup ++ padTo 16 s.statusGroup)

/-- The beats of a served read of len beats at an offset: image bytes, zeros beyond the image (R10). -/
def servedBeats (image : List Byte) (offset len : Nat) : List BeatData := toBeats len (image.drop offset)

end Sys2Proof.Machine
end

