-- ==== Sys2Proof/Machine/Store.lean ====
section
/-! DEFINITION. The store: geometry, the parts of the write sequences and the bursts they are cut into (R158, R159,
R163, R168, R173 to R179), and the presenting of STORE bursts. -/

namespace Sys2Proof.Machine

/-! ### Geometry (R158) -/

/-- The entry of the window table of a kind. -/
def State.windowOf (s : State) (k : WindowKind) : Option Window :=
  (s.path.windows.getD []).find? (fun w => w.kind == k)

/-- The base of the guarded window. -/
def State.storeBase (s : State) : Nat := ((s.windowOf .guarded).map Window.base).getD 0

def State.entryAddr (s : State) (k : Nat) : Nat := s.storeBase + 64 + 8 * k

def State.slotAddr (s : State) (k : Nat) : Nat := s.storeBase + 4096 + 2048 * k

/-! ### The directory image -/

def State.entryAt (s : State) (k : Nat) : SlotEntry := s.recorder.image.getD k .unread

/-- R160. -/
def SlotEntry.eligible (e : SlotEntry) : Bool :=
  (e.state == .empty || e.state == .closed || e.state == .interrupted) && !e.retained

/-- R161, R191: a slot that an opening may choose. -/
def State.choosable (s : State) (k : Nat) : Bool := (s.entryAt k).eligible && s.retention.inHand != some (k, true)

/-- R162, step 2: counting upwards from the next-slot index, round to 0. -/
def State.chooseSlot (s : State) : Option Nat :=
  ((List.range s.params.slots).map fun j => (s.recorder.nextSlot + j) % s.params.slots).find? s.choosable

/-- Some slot is eligible (R160). -/
def State.anyEligible (s : State) : Bool := s.recorder.image.any SlotEntry.eligible

def setEntries : List (Nat × SlotEntry) → List SlotEntry → List SlotEntry
  | [], image => image
  | (k, e) :: rest, image => setEntries rest (image.set k e)

/-- The entries a completed part wrote enter the image (R159). -/
def applySets (b : StoreBurst) (s : State) : State :=
  { s with recorder := { s.recorder with image := setEntries b.sets s.recorder.image } }

/-! ### Bursts -/

/-- The beats of a write of bytes; a last beat of fewer bytes has only their enables set (12.8). -/
def writeBeats : Nat → List Byte → List WriteBeat
  | 0, _ => []
  | n + 1, bs => ⟨beatOf (bs.take 8), BitVec.ofNat 8 (2 ^ min 8 bs.length - 1)⟩ :: writeBeats n (bs.drop 8)

/-- R159: a part's beats in bursts of up to 8 at ascending addresses. -/
def cutWrites (p : Part) (sets : List (Nat × SlotEntry)) : Nat → Nat → List WriteBeat → List StoreBurst
  | 0, _, _ => []
  | n + 1, addr, beats =>
    if beats.length ≤ 8 then [⟨p, true, .write (BitVec.ofNat 32 addr) beats, sets, false⟩]
    else ⟨p, false, .write (BitVec.ofNat 32 addr) (beats.take 8), [], false⟩ ::
      cutWrites p sets n (addr + 64) (beats.drop 8)

/-- The bursts that write bytes at an address; none for no bytes. -/
def writeBursts (p : Part) (addr : Nat) (bs : List Byte) (sets : List (Nat × SlotEntry)) : List StoreBurst :=
  let n := (bs.length + 7) / 8
  cutWrites p sets ((n + 7) / 8) addr (writeBeats n bs)

/-- One read burst of a part. -/
def readBurst (p : Part) (last : Bool) (addr len : Nat) : StoreBurst :=
  ⟨p, last, .read (BitVec.ofNat 32 addr) len, [], false⟩

/-- The bytes a burst writes. -/
def StoreBurst.written (b : StoreBurst) : List Byte :=
  match b.burst with
  | .write _ beats => beats.flatMap fun x => beatBytes x.data
  | .read _ _ => []

/-! ### The directory header -/

def bumpClass (c : ClassCounts) : IncidentClass → ClassCounts
  | .serious => { c with serious := satAdd 65535 c.serious }
  | .advisory => { c with advisory := satAdd 65535 c.advisory }
  | .operator => { c with operator := satAdd 65535 c.operator }
  | .test => { c with test := satAdd 65535 c.test }

/-- The directory header with given next-slot index and class counts, the recorder's values else (R163). -/
def State.headerWith (s : State) (next : Nat) (c : ClassCounts) : List Byte :=
  headerBytes s.params.slots next s.recorder.lifetime c s.recorder.unstored s.recorder.lastUnstored

/-- The directory header of the recorder's current values. -/
def State.currentHeader (s : State) : List Byte := s.headerWith s.recorder.nextSlot s.recorder.classCounts

/-! ### The parts -/

/-- R168: the retained mark of part 4 of a CLOSE sequence. -/
def State.closeRetained (s : State) (i : Incident) : Bool := i.retained || (i.cls == .serious && s.params.autoRetain)

/-- The parts of the open incident's sequences (R163, R168). -/
def State.incidentBursts (s : State) (i : Incident) : Part → List StoreBurst
  | .openEntry =>
    let e : SlotEntry := ⟨.opened, i.number, i.openingCls.code, i.openingCls == .serious && s.params.autoRetain⟩
    writeBursts .openEntry (s.entryAddr i.slot) e.bytes [(i.slot, e)]
  | .slotHeader => writeBursts .slotHeader (s.slotAddr i.slot) i.slotHeader []
  | .snapshot => writeBursts .snapshot (s.slotAddr i.slot + 64) i.snapshot []
  | .preEntries => writeBursts .preEntries (s.slotAddr i.slot + 192) i.preBytes []
  | .partialCrc => writeBursts .partialCrc (s.slotAddr i.slot + 960) i.partialBytes []
  | .postEntries => writeBursts .postEntries (s.slotAddr i.slot + 968) i.postBytes []
  | .footer => writeBursts .footer (s.slotAddr i.slot + 1352) i.footerBytes []
  | .closedBeat => writeBursts .closedBeat (s.slotAddr i.slot) (slotFirstBeat 2 i.number) []
  | .closeEntry =>
    let e : SlotEntry := ⟨.closed, i.number, i.cls.code, s.closeRetained i⟩
    writeBursts .closeEntry (s.entryAddr i.slot) e.bytes [(i.slot, e)]
  | .closeHeader =>
    writeBursts .closeHeader s.storeBase
      (s.headerWith s.recorder.nextSlot (bumpClass s.recorder.classCounts i.cls)) []
  | _ => []

/-- R177: the entry an ERASE sequence writes for a slot. -/
def State.erasedEntry (s : State) (keep : Bool) (k : Nat) : SlotEntry :=
  let e := s.entryAt k
  if keep && e.retained && (e.state == .closed || e.state == .interrupted) then e else ⟨.empty, 0, 0, false⟩

/-- The bursts of a part with the values at the event that asks for it (log 10). -/
def State.partBursts (s : State) (p : Part) : List StoreBurst :=
  match p with
  | .openEntry | .slotHeader | .snapshot | .preEntries | .partialCrc | .postEntries | .footer | .closedBeat
  | .closeEntry | .closeHeader =>
    match s.recorder.incident with
    | some i => s.incidentBursts i p
    | none => []
  | .openHeader | .headerOnly | .scanHeaderWrite => writeBursts p s.storeBase s.currentHeader []
  | .entryWrite k mark =>
    let e := { s.entryAt k with retained := mark }
    writeBursts p (s.entryAddr k) e.bytes [(k, e)]
  | .eraseHeader => writeBursts p s.storeBase (s.headerWith 0 s.recorder.classCounts) []
  | .eraseEntries first keep =>
    let ks := (List.range 8).map (first + ·) |>.filter (· < s.params.slots)
    let es := ks.map fun k => (k, s.erasedEntry keep k)
    writeBursts p (s.entryAddr first) (es.flatMap fun x => x.2.bytes) es
  | .scanHeader => [readBurst p true s.storeBase 8]
  | .scanEntries first => [readBurst p true (s.entryAddr first) (min 8 (s.params.slots - first))]
  | .scanSlotHeader k => [readBurst p true (s.slotAddr k) 8]
  | .scanFooter k => [readBurst p false (s.slotAddr k + 1352) 8, readBurst p true (s.slotAddr k + 1416) 7]
  | .repairBeat k number => writeBursts p (s.slotAddr k) (slotFirstBeat 3 number) []
  | .repairEntry k e => writeBursts p (s.entryAddr k) e.bytes [(k, e)]

/-- The parts of a sequence with N slots. A scan's later parts follow from what it reads. -/
def Sequence.parts (slots : Nat) : Sequence → List Part
  | .opening => [.openEntry, .openHeader, .slotHeader, .snapshot, .preEntries, .partialCrc]
  | .closing => [.postEntries, .footer, .closedBeat, .closeEntry, .closeHeader]
  | .header => [.headerOnly]
  | .entry k mark => [.entryWrite k mark]
  | .erase keep => .eraseHeader :: (List.range ((slots + 7) / 8)).map fun j => .eraseEntries (8 * j) keep
  | .scan => [.scanHeader]

def Part.ofScan : Part → Bool
  | .scanHeader | .scanEntries _ | .scanSlotHeader _ | .scanFooter _ | .repairBeat _ _ | .repairEntry _ _
  | .scanHeaderWrite => true
  | _ => false

/-! ### Presenting -/

/-- A burst is presented, and the rest of its part and sequence kept. -/
def presentStore (q : Sequence) (ps : List Part) (b : StoreBurst) (bs : List StoreBurst) (s : State) : State :=
  { s with
    arb := { s.arb with store := some b }
    recorder := { s.recorder with running := some ⟨q, ps, bs⟩ } }

/-- The next part that has a burst is asked for, and its first burst presented. -/
def askPart (q : Sequence) : List Part → State → State
  | [], s => { s with recorder := { s.recorder with running := some ⟨q, [], []⟩ } }
  | p :: ps, s =>
    match s.partBursts p with
    | [] => askPart q ps s
    | b :: bs => presentStore q ps b bs s

/-- R2: the recorder presents its next burst, one at a time. -/
def presentNext (s : State) : State :=
  match s.recorder.running with
  | none => s
  | some r =>
    if s.arb.store.isSome then s
    else
      match r.bursts with
      | b :: bs => presentStore r.sequence r.parts b bs s
      | [] => askPart r.sequence r.parts s

def startSequence (q : Sequence) (s : State) : State :=
  presentNext { s with recorder := { s.recorder with running := some ⟨q, q.parts s.params.slots, []⟩ } }

/-- R159: sequences start in the order asked; in FAULT none starts but ERASE. -/
def startWaiting (s : State) : State :=
  match s.recorder.running, s.recorder.queue with
  | none, q :: rest => startSequence q { s with recorder := { s.recorder with queue := rest } }
  | _, _ => s

def Sequence.isErase : Sequence → Bool
  | .erase _ => true
  | _ => false

/-- R159: a sequence is asked for; it waits while another runs. In FAULT only ERASE is taken. -/
def askSequence (q : Sequence) (s : State) : State :=
  if s.recorder.store == .fault && !q.isErase then s
  else startWaiting { s with recorder := { s.recorder with queue := s.recorder.queue ++ [q] } }

/-- Parts are added to the running scan, and its next burst presented where none waits. -/
def askScanParts (ps : List Part) (s : State) : State :=
  match s.recorder.running with
  | some r => presentNext { s with recorder := { s.recorder with running := some { r with parts := r.parts ++ ps } } }
  | none => s

/-- R173: a HEADER sequence is asked for unless one is running or waiting. -/
def askHeader (s : State) : State :=
  if (s.recorder.running.map Running.sequence) == some .header || s.recorder.queue.contains .header then s
  else askSequence .header s

/-- The store enters a state: entry to FULL and FAULT set STORE_ALERT, entry to READY with the header stale mark set
asks for a HEADER sequence (R160). A store already in the state does not enter it, also at the end of an ERASE
(log 50). -/
def enterStore (x : StoreState) (s : State) : State :=
  if s.recorder.store == x then s
  else
    let s := { s with recorder := { s.recorder with store := x } }
    match x with
    | .full | .fault => setFlag .storeAlert s
    | .ready => if s.recorder.stale then askHeader s else s
    | .unchecked | .scanning => s

/-- READY or FULL, by eligibility (R160). -/
def State.byEligibility (s : State) : StoreState := if s.anyEligible then .ready else .full

/-- R160: eligibility is examined again while the store is READY or FULL. -/
def reexamine (s : State) : State :=
  if s.recorder.store == .ready || s.recorder.store == .full then enterStore s.byEligibility s else s

/-- The header stale mark is cleared where the header written holds the current values (R163, R169, R173). -/
def clearStale (b : StoreBurst) (s : State) : State :=
  if b.written == s.currentHeader then { s with recorder := { s.recorder with stale := false } } else s

/-- The running sequence ends, and the next waiting one starts (R159). -/
def endSequence (s : State) : State := startWaiting { s with recorder := { s.recorder with running := none } }

end Sys2Proof.Machine
end

