-- ==== Sys2Proof/Machine/Ops.lean ====
section
/-! DEFINITION. Shared operations: timers, what the part puts out, the memory-side arbiter (R14, R15), and the shape
every command's effect has. -/

namespace Sys2Proof.Machine

/-! ### Time -/

/-- The operating time at which a period started now ends (log 4). -/
def State.after (s : State) (ms : Nat) : Nat := (s.clock.op + ms) % 2 ^ 32

def State.timer (s : State) (ms : Nat) : Timer := .running (s.after ms)

def emit (e : Emission) (s : State) : State := { s with emitted := s.emitted ++ [e] }

/-! ### The arbiter -/

inductive Grant where
  | load | store | pass
deriving DecidableEq, Repr

/-- R14: the claim granted, of those that wait. -/
def State.choice (s : State) : Option Grant :=
  let pass := s.arb.pass.isSome
  let store := s.arb.store.isSome
  if s.arb.load.isSome then some .load
  else if pass && store then
    if s.inputs.powerFail then some .store
    else if s.params.storeHigh then (if s.params.waitLimit ≤ s.arb.passWait then some .pass else some .store)
    else if s.params.waitLimit ≤ s.arb.storeWait then some .store else some .pass
  else if pass then some .pass
  else if store then some .store
  else none

/-- A wait count goes up to 32 (R15). -/
def waitBump (n : Nat) : Nat := satAdd 32 n

/-- R15: the counts after a PASS grant. -/
def passCounts (s : State) : Nat × Nat :=
  (if s.arb.store.isSome && !s.params.storeHigh && !s.inputs.powerFail then waitBump s.arb.storeWait
    else s.arb.storeWait, 0)

/-- R15: the counts after a STORE grant. -/
def storeCounts (s : State) : Nat × Nat :=
  (0, if s.arb.pass.isSome && s.params.storeHigh && !s.inputs.powerFail then waitBump s.arb.passWait
    else s.arb.passWait)

/-- The loader's next burst is presented (R25). -/
def presentLoad (s : State) : State :=
  match s.arb.load, s.loader.queue with
  | none, b :: rest => { s with arb := { s.arb with load := some b }, loader := { s.loader with queue := rest } }
  | _, _ => s

def grantLoad (b : LoadBurst) (s : State) : State :=
  presentLoad (emit (.memory b.burst) { s with arb := { s.arb with port := some (.load b), load := none } })

def grantStore (b : StoreBurst) (s : State) : State :=
  let c := storeCounts s
  presentNext (emit (.memory b.burst)
    { s with arb := { s.arb with port := some (.store b), store := none, storeWait := c.1, passWait := c.2 } })

def grantPass (t : Transaction) (s : State) : State :=
  let c := passCounts s
  emit (.memory t)
    { s with arb := { s.arb with port := some (.pass t), pass := none, storeWait := c.1, passWait := c.2 } }

/-- R14: while the port is free and a claim waits, one is granted. -/
def arbitrate (s : State) : State :=
  match s.arb.port with
  | some _ => s
  | none =>
    match s.choice with
    | some .load =>
      match s.arb.load with
      | some b => grantLoad b s
      | none => s
    | some .store =>
      match s.arb.store with
      | some b => grantStore b s
      | none => s
    | some .pass =>
      match s.arb.pass with
      | some t => grantPass t s
      | none => s
    | none => s

def freePort (s : State) : State := { s with arb := { s.arb with port := none } }

/-- The waiting STORE claim is withdrawn. -/
def dropStoreClaim (s : State) : State := { s with arb := { s.arb with store := none } }

def dropLoadClaim (s : State) : State := { s with arb := { s.arb with load := none } }

/-- A granted STORE burst's response will be discarded. -/
def discardStore (s : State) : State :=
  match s.arb.port with
  | some (.store b) => { s with arb := { s.arb with port := some (.store { b with discard := true }) } }
  | _ => s

def discardLoad (s : State) : State :=
  match s.arb.port with
  | some (.load b) => { s with arb := { s.arb with port := some (.load { b with discard := true }) } }
  | _ => s

/-- R25, R171: withdrawal and grant of the waiting STORE claim in one instant, with the port free (log 12). -/
def withdrawStore (o : TakenFirst) (s : State) : State :=
  match o with
  | .withdrawal => dropStoreClaim s
  | .grant => dropStoreClaim (discardStore (arbitrate s))

def withdrawLoad (o : TakenFirst) (s : State) : State :=
  match o with
  | .withdrawal => dropLoadClaim s
  | .grant => dropLoadClaim (discardLoad (arbitrate s))

/-! ### Commands -/

/-- Every command: what it puts out starts empty, its effect is made, and the port is granted where it is free
(R14, log 8). -/
def run (f : State → State) (s : State) : Host.Outcome State Fault Refusal :=
  .next (arbitrate (f { s with emitted := [] }))

/-- The effect of an event that happens only where g holds (log 3). -/
def guarded (g : State → Bool) (f : State → State) (s : State) : State := if g s then f s else s

end Sys2Proof.Machine
end

