-- ==== Sys2Proof/Machine/Recorder.lean ====
section
/-! DEFINITION. The trace ring, triggers, incident assembly, the health counts, and the publication of directive
results (chapters 8 and 9, R192 to R194, R20). -/

namespace Sys2Proof.Machine

/-! ### Closing and the ring -/

/-- R168: entry to CLOSING with a mark; what the incident holds is fixed, and the CLOSE sequence asked for. -/
def enterClosing (mark : ClosingMark) (s : State) : State :=
  let fix (i : Incident) : Incident :=
    { i with closingMark := mark, closingTime := s.clock.op, window := .stopped }
  askSequence .closing
    { s with recorder := { s.recorder with st := .closing, incident := s.recorder.incident.map fix } }

/-- R143: the ring with a new entry; at 48 the oldest is removed first. -/
def ringPush (e : TraceEntry) (ring : List TraceEntry) : List TraceEntry :=
  (if Config.ringCapacity ≤ ring.length then ring.drop 1 else ring) ++ [e]

/-- The open incident with one more post entry. -/
def Incident.addPost (e : TraceEntry) (i : Incident) : Incident := { i with post := i.post ++ [e] }

/-- R166: while CAPTURING, a new entry is copied to the post buffer; a full buffer closes NORMAL. -/
def offerEntry (e : TraceEntry) (s : State) : State :=
  match s.recorder.st, s.recorder.incident with
  | .capturing, some i =>
    let s := { s with recorder := { s.recorder with incident := some (i.addPost e) } }
    if s.params.postCount ≤ i.post.length + 1 then enterClosing .normal s else s
  | _, _ => s

/-- R143, R144: a trace request; dropped while a reset is asserted. -/
def trace (k : TraceKind) (s : State) : State :=
  if s.anyReset then s
  else
    let e : TraceEntry := ⟨k, s.clock.op⟩
    offerEntry e { s with recorder := { s.recorder with ring := ringPush e s.recorder.ring } }

/-! ### Triggers -/

/-- R155, step 1. -/
def stamp (c : TriggerCause) (cls : IncidentClass) (s : State) : Cause :=
  ⟨c, cls, s.clock.op, s.clock.cal, s.clock.valid⟩

/-- R155, step 2. -/
def traceTrigger (x : Cause) (s : State) : State := trace (.trigger x.cause x.cls.code true) s

/-- R161: an incident may open: READY, a slot to choose, and a number left. -/
def State.canOpen (s : State) : Bool :=
  s.recorder.store == .ready && s.chooseSlot.isSome && s.recorder.lifetime < 4294967295

/-- R161. -/
def State.disposition (s : State) : Disposition :=
  match s.recorder.st with
  | .idle => if s.canOpen then .opened else .unstored
  | .opening | .capturing => .appended
  | .closing | .erasing => .pending

/-- R162 with the causes, further count and class the incident opens with (R167 for a pending trigger). -/
def openIncident (first : Cause) (causes : List Cause) (further : Nat) (cls : IncidentClass) (s : State) : State :=
  let slot := s.chooseSlot.getD 0
  let lifetime := s.recorder.lifetime + 1
  let s := { s with recorder := { s.recorder with lifetime := lifetime, nextSlot := (slot + 1) % s.params.slots } }
  let i : Incident := {
    number := lifetime
    slot := slot
    first := first
    openingTime := s.clock.op
    causes := causes
    further := further
    cls := cls
    post := []
    window := .stopped
    truncated := false
    openingCls := cls
    retained := false
    pre := s.recorder.ring
    snapshot := s.snapshot
    closingMark := .normal
    closingTime := 0 }
  askSequence .opening { s with recorder := { s.recorder with incident := some i, st := .opening } }

/-- R165: a cause list takes a cause while it has fewer than 4. -/
def addCause (x : Cause) (xs : List Cause) : List Cause :=
  if xs.length < Config.causeCapacity then xs ++ [x] else xs

/-- R165: otherwise the further count adds one, saturating at 255. -/
def addFurther (xs : List Cause) (n : Nat) : Nat := if xs.length < Config.causeCapacity then n else satAdd 255 n

/-- R165: a trigger joins the open incident. -/
def Incident.append (x : Cause) (i : Incident) : Incident :=
  { i with causes := addCause x i.causes, further := addFurther i.causes i.further, cls := i.cls.higher x.cls }

/-- R167: a trigger joins the pending trigger, or makes it. -/
def addPending (x : Cause) : Option PendingTrigger → PendingTrigger
  | none => ⟨x, [x], 0, x.cls⟩
  | some p => ⟨p.first, addCause x p.others, addFurther p.others p.further, p.cls.higher x.cls⟩

/-- R173: one unstored incident. -/
def unstored (x : Cause) (s : State) : State :=
  let s := { s with recorder := { s.recorder with
    unstored := satAdd 65535 s.recorder.unstored, lastUnstored := some x, stale := true } }
  let s := setFlag .storeAlert s
  if s.recorder.store == .ready then askHeader s else s

/-- R155, step 3: incident assembly disposes of a stamped trigger. -/
def assemble (x : Cause) (s : State) : State :=
  match s.disposition with
  | .opened => openIncident x [x] 0 x.cls s
  | .appended =>
    { s with recorder := { s.recorder with incident := s.recorder.incident.map (Incident.append x) } }
  | .pending => { s with recorder := { s.recorder with waiting := some (addPending x s.recorder.waiting) } }
  | .unstored => unstored x s

/-- R153: the recorder takes a PATH_VIOLATION trigger only with no incident open and none pending. -/
def State.takesTrigger (s : State) (c : TriggerCause) : Bool :=
  match c with
  | .pathViolation _ =>
    (s.recorder.st == .idle || s.recorder.st == .erasing) && s.recorder.waiting.isNone
  | _ => true

/-- R155: a trigger of a block; dropped while a reset is asserted (R152). -/
def raise (c : TriggerCause) (cls : IncidentClass) (s : State) : State :=
  if s.anyReset || !s.takesTrigger c then s
  else
    let x := stamp c cls s
    assemble x (traceTrigger x s)

/-- R167: the pending trigger is disposed of at the return to IDLE. -/
def disposePending (s : State) : State :=
  match s.recorder.waiting with
  | none => s
  | some p =>
    let s := { s with recorder := { s.recorder with waiting := none } }
    if s.canOpen then openIncident p.first p.others p.further p.cls s else unstored p.first s

/-- R152: the class of each cause of the blocks; LINE, SOFTWARE and TEST_RESULT are raised with theirs. -/
def TriggerCause.cls : TriggerCause → IncidentClass
  | .penaltyStale | .penaltyChecks | .emergencyDemand | .slideTimeout _ | .airLost | .line _ => .serious
  | .tractionLost | .gridTrip _ | .sensorLost | .releaseOverrun | .health _ | .pathViolation _ => .advisory
  | .software _ => .operator
  | .testResult _ _ _ => .test

/-- A trigger with the class of its cause (R152). -/
def trigger (c : TriggerCause) (s : State) : State := raise c c.cls s

/-! ### Health counts (R192, R193) -/

def countHealth (h : Health) (s : State) : State :=
  if s.anyReset then s
  else
    let n := satAdd 65535 (s.retention.counts.get h)
    let s := { s with retention := { s.retention with counts := s.retention.counts.set h n } }
    if exceededOf (s.params.health.get h) n && !s.retention.exceeded.get h then
      let ex := s.retention.exceeded.set h true
      let s := { s with retention := { s.retention with exceeded := ex, verdict := verdictOf s.params.health ex } }
      trigger (.health h) (setFlag .attributeExceeded s)
    else s

/-! ### Results of directives (R20) -/

/-- R20: a result is published. -/
def publish (tag code : Nat) (r : DirResult) (s : State) : State :=
  let s := { s with decoder := { s.decoder with last := ⟨tag, code, r⟩ } }
  trace (.directive code tag r) (setFlag .directiveDone s)

/-- R19: the final result, or the refusal, of the directive in the slot: published, and the slot emptied. -/
def finish (c : DirectiveCode) (r : DirResult) (s : State) : State :=
  match s.decoder.slot with
  | some x =>
    if x.code == c then publish x.tag x.code.code r { s with decoder := { s.decoder with slot := none } } else s
  | none => s

/-- R19, R20: the directive in the slot is answered IN_PROGRESS. -/
def inProgress (s : State) : State :=
  match s.decoder.slot with
  | some x =>
    { s with decoder := { s.decoder with
      slot := some { x with awaiting := false }, last := ⟨x.tag, x.code.code, .inProgress⟩ } }
  | none => s

end Sys2Proof.Machine
end

