-- ==== Sys2Proof/Machine/Links.lean ====
section
/-! DEFINITION. The two channels of the actuator link unit: sending, the outstanding lists, misses and losses, the
handshake's and the test's moves, short of their hand-off to the blend unit (chapter 7). -/

namespace Sys2Proof.Machine

/-- The last installed achieved pressures, 0 kPa before any (R134, R58). -/
def State.achievedPressures (s : State) : Pair Nat := s.air.last.getD ⟨0, 0⟩

/-! ### Outstanding lists (R120) -/

/-- A command enters the list; at 4 entries the oldest is removed first. -/
def listPush (e : Outstanding) (xs : List Outstanding) : List Outstanding :=
  (if Config.listCapacity ≤ xs.length then xs.drop 1 else xs) ++ [e]

/-- The list is full, so that sending counts a miss (R120). -/
def listFull (xs : List Outstanding) : Bool := Config.listCapacity ≤ xs.length

/-- R121: how an echoed sequence pairs. -/
inductive Pairing where
  | newest
  | older (rest : List Outstanding)
  | stray
deriving DecidableEq, Repr

/-- R121: the entry that the echo names and what stays behind it. -/
def pairUp (echo : Nat) : List Outstanding → Pairing
  | [] => .stray
  | e :: rest => if e.sequence == echo then (if rest.isEmpty then .newest else .older rest) else pairUp echo rest

/-- R122: an expiry removes the entry of its sequence. -/
def dropEntry (seq : Nat) (xs : List Outstanding) : List Outstanding := xs.filter fun e => e.sequence != seq

/-! ### Traction channel -/

/-- R118: the sending states of the traction channel. -/
def TractionState.sending : TractionState → Bool
  | .starting | .active | .lost | .resuming => true
  | .releasing | .released => false

/-- A state of the traction channel is entered, with its CHANNEL entry (R124, R125, R129). -/
def enterTraction (x : TractionState) (s : State) : State :=
  trace (.channel .traction (.stateChange x.code)) { s with traction := { s.traction with st := x } }

/-- R118: one DYN_COMMAND with the values to send. -/
def pushTraction (s : State) : State :=
  let t := s.traction
  let v := t.values.getD (Six.all 0)
  emit (.frame .traction (dynCommandFrame t.sendSeq v))
    { s with traction := { t with
      sendSeq := (t.sendSeq + 1) % 256
      list := listPush ⟨t.sendSeq, s.timer s.params.replyTimeout⟩ t.list
      keepalive := s.timer s.params.keepalive } }

/-- R124, steps 1 to 4, for the traction channel. -/
def tractionLost (s : State) : State :=
  trigger .tractionLost (countHealth .tractionLosses (setFlag .linkLost (enterTraction .lost s)))

/-- R122, R123: a miss, and the loss it may bring. -/
def tractionMissed (s : State) : State :=
  let s := { s with traction := { s.traction with miss := satAdd 255 s.traction.miss, good := 0 } }
  if (s.traction.st == .starting || s.traction.st == .active) && s.params.missLimit ≤ s.traction.miss then
    tractionLost s
  else s

/-- R118, R120: a DYN_COMMAND is sent; to a full list it counts a miss (log 25). -/
def sendTraction (s : State) : State :=
  if listFull s.traction.list then tractionMissed (pushTraction s) else pushTraction s

/-- R118: the blend unit hands six targets. -/
def takeTargets (v : Six Nat) (s : State) : State :=
  if s.traction.values == some v then s
  else
    let s := { s with traction := { s.traction with values := some v } }
    if s.traction.st.sending then sendTraction s else s

/-- R121: a good reply. -/
def tractionGood (s : State) : State :=
  { s with traction := { s.traction with good := satAdd 255 s.traction.good, miss := 0 } }

def tractionStray (s : State) : State := trace (.channel .traction .stray) s

/-- R123, R125, R130: what a good reply, with the mode its report gives, makes of the channel state. -/
def tractionRestored (mode : ConverterMode) (s : State) : State :=
  match s.traction.st with
  | .starting | .lost => if s.params.restoreCount ≤ s.traction.good then enterTraction .active s else s
  | .resuming =>
    if mode == .underControl then
      let directive := s.traction.hsOrigin == .directive
      let s := { s with traction := { s.traction with hsKind := .none, hsTimer := .stopped } }
      let s := enterTraction .active s
      if directive then finish .resumeTraction .done s else s
    else s
  | .active | .releasing | .released => s

/-- R121, R126: a good DYN_REPORT, short of the hand-off to the blend unit. -/
def takeDynReport (echo : Nat) (d : DynData) (s : State) : State :=
  match pairUp echo s.traction.list with
  | .stray => tractionStray s
  | .newest =>
    tractionRestored d.mode
      (tractionGood { s with traction := { s.traction with list := [], last := some d } })
  | .older rest =>
    tractionRestored d.mode
      (trace (.channel .traction .late) (tractionGood { s with traction := { s.traction with list := rest } }))

/-- R130: a resume: RESUME_REQUEST, the handshake, RESUMING, and a DYN_COMMAND at once. -/
def startResume (origin : HsOrigin) (s : State) : State :=
  let t := s.traction
  let s := emit (.frame .traction (resumeRequestFrame t.sendSeq))
    { s with traction := { t with
      sendSeq := (t.sendSeq + 1) % 256
      hsKind := .resume
      hsOrigin := origin
      hsTimer := s.timer s.params.releaseTimeout } }
  sendTraction (enterTraction .resuming s)

/-- R131: an automatic resume from RELEASING or RELEASED, with RELEASE_OVERRUN at a departure to MOVING. -/
def autoResume (overrun : Bool) (s : State) : State :=
  match s.traction.st with
  | .releasing =>
    let s := finish .releaseTraction .aborted (startResume .automatic s)
    if overrun then trigger .releaseOverrun s else s
  | .released =>
    let s := startResume .automatic s
    if overrun then trigger .releaseOverrun s else s
  | .starting | .active | .lost | .resuming => s

/-! ### Air channel -/

/-- The air channel enters a state, with its CHANNEL entry. -/
def enterAir (x : LinkState) (s : State) : State :=
  trace (.channel .air (.stateChange x.code)) { s with air := { s.air with st := x } }

/-- R133: the pressures of a phase. -/
def phasePressures (p : Params) : TestPhase → Pair Nat
  | .none => ⟨0, 0⟩
  | .aApply => ⟨p.testPressure, p.holdPressure⟩
  | .aRelease => ⟨0, p.holdPressure⟩
  | .bApply => ⟨p.holdPressure, p.testPressure⟩
  | .bRelease => ⟨p.holdPressure, 0⟩

/-- R118: what an AIR_COMMAND carries. -/
def State.airPressures (s : State) : Pair Nat :=
  match s.air.source with
  | .test => phasePressures s.params s.air.phase
  | .blend => s.air.values.getD ⟨0, 0⟩

/-- R118: one AIR_COMMAND. -/
def pushAir (s : State) : State :=
  let a := s.air
  emit (.frame .air (airCommandFrame a.sendSeq s.airPressures))
    { s with air := { a with
      sendSeq := (a.sendSeq + 1) % 256
      list := listPush ⟨a.sendSeq, s.timer s.params.replyTimeout⟩ a.list
      keepalive := s.timer s.params.keepalive } }

/-- R124, steps 2 to 4, for the air channel. -/
def airLossRequests (s : State) : State := trigger .airLost (countHealth .airLosses (setFlag .linkLost s))

/-- R124, steps 1 to 4, for the air channel. -/
def airLost (s : State) : State := airLossRequests (enterAir .lost s)

def airMissCount (s : State) : State :=
  { s with air := { s.air with miss := satAdd 255 s.air.miss, good := 0 } }

/-- R123: the miss count takes the channel to LOST. -/
def State.airFails (s : State) : Bool := s.air.st != .lost && s.params.missLimit ≤ s.air.miss

def testDirResult : TestResult → DirResult
  | .pass => .done
  | .fail => .failed
  | .aborted => .aborted

/-- R136: the end of the test is kept, traced and answered. -/
def recordTestEnd (r : TestResult) (ph : TestPhase) (pr : Pair Nat) (s : State) : State :=
  finish .testAirPath (testDirResult r) (trace (.test ph (.ended r))
    { s with air := { s.air with phase := .none, phaseTimer := .stopped, lastTest := some ⟨r, ph, pr⟩ } })

/-- R136: the command source goes back to BLEND, with a command; a miss is counted where the list was full. -/
def sourceToBlend (full : Bool) (s : State) : State :=
  let s := pushAir { s with air := { s.air with source := .blend } }
  if full then airMissCount s else s

/-- The command that ends the test finds the list full, and its miss takes the channel to LOST (R120, R123). -/
def State.endFails (s : State) : Bool := listFull s.air.list && (airMissCount s).airFails

/-- R136: the end of the air path test, with a directive answered right after its result (R135); nothing where none
runs. The requests stand in the order of R128, those of a loss that the command's miss brings among them (log 25). -/
def endTestWith (answer : State → State) (r : TestResult) (s : State) : State :=
  if s.air.phase == .none then s
  else
    let ph := s.air.phase
    let pr := s.achievedPressures
    let full := listFull s.air.list
    let fails := s.endFails
    let s := if fails then enterAir .lost s else s
    let s := sourceToBlend full (answer (recordTestEnd r ph pr s))
    trigger (.testResult r ph pr) (if fails then airLossRequests s else s)

/-- R136: the end of the air path test, with nothing answered but the test itself. -/
def endTest (r : TestResult) (s : State) : State := endTestWith (fun s => s) r s

/-- R122 to R124: a miss on the air channel, the loss it may bring, and the test that loss ends. -/
def airMissed (s : State) : State :=
  let s := airMissCount s
  if s.airFails then endTest .aborted (airLost s) else s

/-- R118, R120. -/
def sendAir (s : State) : State := if listFull s.air.list then airMissed (pushAir s) else pushAir s

/-- R118: the blend unit hands two pressures; during the test they are kept and not sent. -/
def takePressures (v : Pair Nat) (s : State) : State :=
  if s.air.values == some v then s
  else
    let s := { s with air := { s.air with values := some v } }
    match s.air.source with
    | .blend => sendAir s
    | .test => s

/-- R133: a phase is entered: its pressures are sent and the phase timer started. -/
def enterPhase (ph : TestPhase) (s : State) : State :=
  sendAir { s with air := { s.air with phase := ph, phaseTimer := s.timer s.params.phaseTimeout } }

/-- R133: the tested truck's achieved pressure and the target. -/
def phaseTarget (p : Params) (v : Pair Nat) : TestPhase → Option (Nat × Nat)
  | .none => Option.none
  | .aApply => some (v.a, p.testPressure)
  | .aRelease => some (v.a, 0)
  | .bApply => some (v.b, p.testPressure)
  | .bRelease => some (v.b, 0)

/-- R133: within the tolerance, either way. -/
def phasePasses (p : Params) (v : Pair Nat) (ph : TestPhase) : Bool :=
  match phaseTarget p v ph with
  | some (x, target) => x ≤ target + p.testTolerance && target ≤ x + p.testTolerance
  | none => false

/-- R133: the next phase; none after B_RELEASE. -/
def nextPhase : TestPhase → Option TestPhase
  | .aApply => some .aRelease
  | .aRelease => some .bApply
  | .bApply => some .bRelease
  | .bRelease | .none => Option.none

/-- R133: the next phase is entered, or the test ends. -/
def phaseOver (ph : TestPhase) (s : State) : State :=
  match nextPhase ph with
  | some n => enterPhase n s
  | none => endTest .pass s

/-- R133: a running test judges an installed report (log 38). -/
def judgePhase (v : Pair Nat) (s : State) : State :=
  if phasePasses s.params v s.air.phase then phaseOver s.air.phase (trace (.test s.air.phase .phasePassed) s) else s

def airGood (s : State) : State := { s with air := { s.air with good := satAdd 255 s.air.good, miss := 0 } }

/-- R123, R125. -/
def airRestored (s : State) : State :=
  if s.air.st != .active && s.params.restoreCount ≤ s.air.good then enterAir .active s else s

/-- R121, R127: a good AIR_REPORT, short of the hand-off to the blend unit. One that arrives after the phase timer has ended
its test is late by R121, against R133 (log 53). -/
def takeAirReport (echo : Nat) (v : Pair Nat) (s : State) : State :=
  match pairUp echo s.air.list with
  | .stray => trace (.channel .air .stray) s
  | .newest => judgePhase v (airRestored (airGood { s with air := { s.air with list := [], last := some v } }))
  | .older rest => airRestored (trace (.channel .air .late) (airGood { s with air := { s.air with list := rest } }))

/-! ### What the unit hears from its neighbours -/

/-- R131, R135: a departure from CONFIRMED, to MOVING or to UNKNOWN; the traction channel hears of it before the air
channel (log 40). -/
def linksLoseStandstill (moving : Bool) (s : State) : State := endTest .aborted (autoResume moving s)

end Sys2Proof.Machine
end

