-- ==== Sys2Proof/Machine/Slide.lean ====
section
/-! DEFINITION. The slide unit's work within an event (R96 to R109): a pure move of its state, then its reports. -/

namespace Sys2Proof.Machine

/-- What an event brings to the slide unit (R97, R98). -/
structure SlideEvent where
  sample : Bool
  lost : Bool
  arming : Bool
  confirmed : Bool
  recovery : Option Axle
  hold : Option Truck
  reapply : Option Truck
  release : Option Truck
  clear : Option Truck
deriving DecidableEq, Repr

/-- An event that brings nothing of its own. -/
def SlideEvent.quiet : SlideEvent := ⟨false, false, false, false, none, none, none, none, none⟩

/-- An event in which arming is examined (R97). -/
def SlideEvent.exam : SlideEvent := { SlideEvent.quiet with arming := true }

/-! ### Axles -/

/-- R98, R99: an axle's move by its validity, or by the expiry of its recovery dwell (R101). -/
def validAxle (e : SlideEvent) (s : State) (x : Axle) : AxleState :=
  let old := s.slide.axles.get x
  if e.lost then .unsensed
  else if e.sample then
    if (s.speed.axles.get x).valid then (if old == .unsensed then .adhering else old) else .unsensed
  else if e.recovery == some x && old == .recovering then .adhering
  else old

/-- R96: the locomotive is braking, by the trucks' states u. -/
def State.braking (s : State) (trucks : Pair TruckState) : Bool :=
  let d := s.demand
  ((d.st == .live || d.st == .stale) && 0 < d.effective.fields.effort) ||
    d.st == .penalty || d.st == .emergency ||
    (match s.slide.commanded with
      | some p => s.params.holdPressure < p.a || s.params.holdPressure < p.b
      | none => false) ||
    trucks.toList.any (fun t => t == .dump || t == .hold || t == .reapply)

/-- R96: slide control is armed by the axle and truck states given. -/
def State.armable (s : State) (axles : Six AxleState) (trucks : Pair TruckState) : Bool :=
  s.speed.link == .active &&
    (match s.speed.reference with
      | some r => s.params.armingFloor ≤ r
      | none => false) &&
    axles.toList.any (fun a => a != .unsensed) && s.braking trucks

/-- R97: disarming returns an axle in SLIDING or RECOVERING to ADHERING. -/
def disarmAxle : AxleState → AxleState
  | .sliding | .recovering => .adhering
  | .adhering => .adhering
  | .unsensed => .unsensed

/-- R97: disarming returns a truck in DUMP, HOLD or REAPPLY to APPLY. -/
def disarmTruck : TruckState → TruckState
  | .dump | .hold | .reapply => .apply
  | .apply => .apply
  | .fault => .fault

/-- R100: the slide condition, for a slip at a reference speed. -/
def slideCondition (p : Params) (slip reference : Nat) : Bool :=
  p.slipOn ≤ slip || p.ratioOn * reference ≤ slip * 100

/-- R100, R101: an axle judged at an accepted sample while ARMED. -/
def judgeAxle (s : State) (x : Axle) (a : AxleState) : AxleState :=
  match s.speed.slips.get x, s.speed.reference with
  | some slip, some r =>
    match a with
    | .adhering => if slideCondition s.params slip r then .sliding else .adhering
    | .sliding => if slip < s.params.slipOff then .recovering else .sliding
    | .recovering => if slideCondition s.params slip r then .sliding else .recovering
    | .unsensed => .unsensed
  | _, _ => a

/-- R97: arming after the event, by the axles as validity left them. -/
def armedAfter (e : SlideEvent) (s : State) (axles : Six AxleState) : Bool :=
  if e.arming then s.armable axles s.slide.trucks else s.slide.armed

/-- R98, steps 2 to 4, for one axle: at most one move in an event. -/
def axleAfter (e : SlideEvent) (s : State) (axles : Six AxleState) (armed : Bool) (x : Axle) : AxleState :=
  let v := axles.get x
  if v != s.slide.axles.get x then v
  else if s.slide.armed && !armed then disarmAxle v
  else if armed && e.sample then judgeAxle s x v
  else v

/-! ### Trucks -/

/-- A truck's state with its three timers. -/
structure TruckUnit where
  st : TruckState
  hold : Timer
  reapply : Timer
  release : Timer
deriving DecidableEq, Repr

def SlideUnit.truck (u : SlideUnit) (t : Truck) : TruckUnit :=
  ⟨u.trucks.get t, u.hold.get t, u.reapply.get t, u.release.get t⟩

/-- A truck in APPLY, its timers stopped. -/
def TruckUnit.rest : TruckUnit := ⟨.apply, .stopped, .stopped, .stopped⟩

/-- R104 to R106: the examination of a truck, some axle of it SLIDING or none. -/
def examineTruck (s : State) (t : Truck) (sliding : Bool) (u : TruckUnit) : TruckUnit :=
  match u.st with
  | .apply =>
    let air := match s.slide.commanded with
      | some p => 0 < p.get t
      | none => false
    if sliding && air then { u with st := .dump, release := s.timer s.params.maxRelease } else u
  | .dump => if sliding then u else { u with st := .hold, hold := s.timer s.params.holdDwell }
  | .hold => if sliding then { u with st := .dump, hold := .stopped } else u
  | .reapply => if sliding then { u with st := .dump, reapply := .stopped } else u
  | .fault => u

/-- R98, steps 3 and 5, for one truck: at most one move in an event. -/
def truckAfter (e : SlideEvent) (s : State) (armed sliding : Bool) (t : Truck) : TruckUnit :=
  let u := s.slide.truck t
  if s.slide.armed && !armed && disarmTruck u.st != u.st then .rest
  else if e.release == some t && (u.st == .dump || u.st == .hold || u.st == .reapply) then
    ⟨.fault, .stopped, .stopped, .stopped⟩
  else if e.hold == some t && u.st == .hold then
    { u with st := .reapply, hold := .stopped, reapply := s.timer s.params.reapplyDwell }
  else if e.reapply == some t && u.st == .reapply then .rest
  else if (e.clear == some t || e.confirmed) && u.st == .fault then { u with st := .apply }
  else examineTruck s t sliding u

/-! ### The whole event -/

/-- R99, R101, R97: the recovery dwell timer of an axle after the event. -/
def recoveryAfter (s : State) (x : Axle) (new : AxleState) : Timer :=
  match s.slide.axles.get x, new with
  | .recovering, .recovering => s.slide.recovery.get x
  | _, .recovering => s.timer s.params.recoveryDwell
  | _, _ => .stopped

/-- R98, steps 1 to 5: the slide unit after an event. -/
def slideNext (e : SlideEvent) (s : State) : SlideUnit :=
  let valid := Six.ofFn (validAxle e s)
  let armed := armedAfter e s valid
  let axles := Six.ofFn (axleAfter e s valid armed)
  let sliding (t : Truck) : Bool := (axlesOf t).any fun x => axles.get x == .sliding
  let ta := truckAfter e s armed (sliding .a) .a
  let tb := truckAfter e s armed (sliding .b) .b
  { armed := armed
    axles := axles
    recovery := Six.ofFn fun x => recoveryAfter s x (axles.get x)
    trucks := ⟨ta.st, tb.st⟩
    hold := ⟨ta.hold, tb.hold⟩
    reapply := ⟨ta.reapply, tb.reapply⟩
    release := ⟨ta.release, tb.release⟩
    commanded := s.slide.commanded }

/-- R102, step 1: slip and speed as the speed unit holds them, an INVALID speed as such (R145, R207). -/
def reportAxle (old new : SlideUnit) (s : State) (x : Axle) : State :=
  if old.axles.get x == new.axles.get x then s
  else trace (.axle x (old.axles.get x) (new.axles.get x) (s.speed.slips.get x) (s.speed.axles.get x)) s

/-- R102, step 2. -/
def reportTruck (old new : SlideUnit) (s : State) (t : Truck) : State :=
  if old.trucks.get t == new.trucks.get t then s
  else trace (.truck t (old.trucks.get t) (new.trucks.get t) (new.commanded.map fun p => p.get t)) s

/-- R102, step 3. -/
def reportCount (old new : SlideUnit) (s : State) (t : Truck) : State :=
  if old.trucks.get t == new.trucks.get t then s
  else
    match old.trucks.get t, new.trucks.get t with
    | .apply, .dump => countHealth .slideEpisodes s
    | _, .fault => countHealth .slideFaults s
    | _, _ => s

/-- R102, step 4. -/
def reportFlag (old new : SlideUnit) (s : State) (t : Truck) : State :=
  if old.trucks.get t == new.trucks.get t then s
  else
    match new.trucks.get t with
    | .dump => setFlag .slide s
    | .fault => setFlag .slideFault s
    | .apply | .hold | .reapply => s

/-- R102, step 5. -/
def reportTrigger (old new : SlideUnit) (s : State) (t : Truck) : State :=
  if old.trucks.get t == new.trucks.get t then s
  else
    match new.trucks.get t with
    | .fault => trigger (.slideTimeout t) s
    | .apply | .dump | .hold | .reapply => s

/-- R102: the reports of an event, in their order; within steps 2 to 5 truck A before truck B (log 48). -/
def slideReports (old new : SlideUnit) (s : State) : State :=
  let s := allAxles.foldl (reportAxle old new) s
  let s := reportTruck old new (reportTruck old new s .a) .b
  let s := reportCount old new (reportCount old new s .a) .b
  let s := reportFlag old new (reportFlag old new s .a) .b
  reportTrigger old new (reportTrigger old new s .a) .b

/-- R98: one event at the slide unit, short of its hand-off to the blend unit. -/
def slideRun (e : SlideEvent) (s : State) : State :=
  let new := slideNext e s
  slideReports s.slide new { s with slide := new }

/-- R103: an axle or truck slide state differs. -/
def slideMoved (old new : State) : Bool :=
  old.slide.axles != new.slide.axles || old.slide.trucks != new.slide.trucks

/-- R113: the slide unit's reset values. -/
def SlideUnit.initial : SlideUnit :=
  ⟨false, Six.all .unsensed, Six.all .stopped, ⟨.apply, .apply⟩, ⟨.stopped, .stopped⟩, ⟨.stopped, .stopped⟩,
    ⟨.stopped, .stopped⟩, none⟩

end Sys2Proof.Machine
end

