-- ==== Sys2Proof/Machine/Blend.lean ====
section
/-! DEFINITION. The blend unit: grids, targets, makeup, pressures, the BLEND entry, and a recompute with its hand-offs
(chapter 4). -/

namespace Sys2Proof.Machine

/-! ### Values read (R58) -/

/-- The grid temperature last installed, 0 °C before any. -/
def State.gridTemp (s : State) (t : Truck) : Nat := (s.traction.last.map fun d => d.temperature.get t).getD 0

/-- R63: an axle's capability; 0 kN before any report and in converter mode FAULT. -/
def State.capability (s : State) (x : Axle) : Nat :=
  match s.traction.last with
  | some d => if d.mode == .fault then 0 else d.capability.get x
  | none => 0

/-- R67: an axle's achieved effort; 0 kN while the traction channel is not ACTIVE. At its return to ACTIVE the last
report counts, be it from before the loss (R125, log 43). -/
def State.achieved (s : State) (x : Axle) : Nat :=
  match s.traction.last with
  | some d => if s.traction.st == .active then d.achieved.get x else 0
  | none => 0

/-- R62: the reference speed is below the dynamic cutout speed. -/
def State.belowCutout (s : State) : Bool :=
  match s.speed.reference with
  | some r => r < s.params.cutout
  | none => false

/-- The axle is in the dynamic inhibit of the effective demand (R207). -/
def State.inhibited (s : State) (x : Axle) : Bool := s.demand.effective.fields.inhibit.getLsbD (axleCode x - 1)

/-! ### Grids (R72 to R74) -/

/-- R73. -/
def gridNext (p : Params) (g : GridState) (t : Nat) : GridState :=
  match g with
  | .cool => if p.trip ≤ t then .tripped else if p.derate ≤ t then .derated else .cool
  | .derated => if p.trip ≤ t then .tripped else if p.derate ≤ t then .derated else .cool
  | .tripped => if t ≤ p.resetTemp then .cool else .tripped

/-- R74: the requests of a change. -/
def gridRequests (t : Truck) (old new : GridState) (temp : Nat) (s : State) : State :=
  let s := trace (.grid t old new temp) s
  match new with
  | .cool => s
  | .derated => countHealth .gridDerates (setFlag .grid s)
  | .tripped => trigger (.gridTrip t) (countHealth .gridTrips (setFlag .grid s))

/-- R72: one evaluation of a truck's grid. -/
def evalGrid (t : Truck) (s : State) : State :=
  let old := s.blend.grid.get t
  let new := gridNext s.params old (s.gridTemp t)
  if new == old then s
  else gridRequests t old new (s.gridTemp t) { s with blend := { s.blend with grid := s.blend.grid.set t new } }

/-- R60, step 1. -/
def evalGrids (s : State) : State :=
  if s.traction.st == .active then evalGrid .b (evalGrid .a s) else s

/-! ### Targets (R62 to R65) -/

/-- R62. -/
def State.zeroed (s : State) (x : Axle) : Bool :=
  s.traction.st != .active || s.demand.effective.fields.policy == .airOnly || s.inhibited x ||
    s.slide.axles.get x == .unsensed || s.speed.link != .active || s.belowCutout ||
    s.slide.axles.get x == .sliding || s.blend.grid.get (truckOf x) == .tripped ||
    s.demand.st == .noDemand || s.demand.st == .penalty ||
    (s.demand.st == .emergency && !s.params.emergencyDynamic)

/-- R63: the base of an axle that is not zeroed. -/
def State.base (s : State) (x : Axle) : Nat :=
  if s.demand.st == .emergency then s.capability x else (s.demand.effective.fields.effort + 5) / 6

/-- R64. -/
def State.derated (s : State) (x : Axle) (v : Nat) : Nat :=
  if s.blend.grid.get (truckOf x) == .derated then
    v * (s.params.trip - s.gridTemp (truckOf x)) / (s.params.trip - s.params.derate)
  else v

/-- R65. -/
def State.recovered (s : State) (x : Axle) (v : Nat) : Nat :=
  if s.slide.axles.get x == .recovering then v * s.params.recoveryFraction / 100 else v

/-- R62 to R65: an axle's dynamic target. -/
def State.target (s : State) (x : Axle) : Nat :=
  if s.zeroed x then 0 else s.recovered x (s.derated x (min (s.base x) (s.capability x)))

/-! ### Pressures (R66 to R70) -/

/-- R66, R67: the effort credited to an axle with a target. -/
def State.credit (s : State) (targets : Six Nat) (x : Axle) : Nat := min (s.achieved x) (targets.get x)

/-- R66. -/
def State.makeup (s : State) (targets : Six Nat) (t : Truck) : Nat :=
  (s.demand.effective.fields.effort + 1) / 2 - ((axlesOf t).map (s.credit targets)).sum

/-- R68. -/
def State.blendPressure (s : State) (targets : Six Nat) (t : Truck) : Nat :=
  let indep := s.demand.effective.fields.independent.get t
  match s.demand.st with
  | .live | .stale =>
    let g := s.params.gain.get t
    min s.params.pmax (max ((s.makeup targets t * 100 + (g - 1)) / g) indep)
  | .noDemand => s.params.holdPressure
  | .penalty => max s.params.penalty indep
  | .emergency => s.params.emergency

/-- R70: the held value after a recompute. -/
def State.heldValue (s : State) (t : Truck) : Option Nat :=
  if s.slide.trucks.get t == .hold then
    match s.blend.held.get t with
    | some v => some v
    | none => some (s.achievedPressures.get t)
  else none

/-- R69. -/
def State.commandedPressure (s : State) (pressure : Nat) (t : Truck) : Nat :=
  match s.slide.trucks.get t with
  | .apply | .fault => pressure
  | .dump => 0
  | .hold => min ((s.heldValue t).getD 0) pressure
  | .reapply => (pressure * s.params.reapplyFraction + 99) / 100

/-- R60, steps 2 to 4: the blend unit with the values of a recompute. -/
def State.blendValues (s : State) : BlendUnit :=
  let targets := Six.ofFn s.target
  let pressure := Pair.ofFn (s.blendPressure targets)
  { s.blend with
    targets := targets
    pressure := pressure
    commanded := Pair.ofFn fun t => s.commandedPressure (pressure.get t) t
    held := Pair.ofFn s.heldValue }

/-! ### The BLEND entry (R75, R76) -/

def distance (x y : Nat) : Nat := (x - y) + (y - x)

/-- R75. -/
def State.blendTraceDue (s : State) : Bool :=
  match s.blend.traced with
  | none => true
  | some (p, sum) =>
    s.params.pressureStep ≤ distance s.blend.commanded.a p.a ||
      s.params.pressureStep ≤ distance s.blend.commanded.b p.b ||
      s.params.dynamicStep ≤ distance s.blend.targets.toList.sum sum

/-- R76, SLIDE. -/
def State.limitedBySlide (s : State) : Bool :=
  s.slide.axles.toList.any (fun a => a == .sliding || a == .recovering) ||
    s.slide.trucks.toList.any (fun t => t == .dump || t == .hold || t == .reapply)

/-- R76, GRID. -/
def State.limitedByGrid (s : State) : Bool :=
  [Truck.a, .b].any fun t =>
    s.blend.grid.get t == .tripped || (s.blend.grid.get t == .derated && s.params.derate < s.gridTemp t)

/-- R76, CAPABILITY; an axle that R62 zeroes has no base (R63). -/
def State.limitedByCapability (s : State) : Bool :=
  s.traction.st != .active ||
    (match s.traction.last with
      | some d => d.mode == .fault
      | none => false) ||
    allAxles.any fun x => !s.zeroed x && s.capability x < s.base x

/-- R76, CUTOUT. -/
def State.limitedByCutout (s : State) : Bool :=
  s.speed.link != .active || s.slide.axles.toList.any (fun a => a == .unsensed) || s.belowCutout

/-- R76, POLICY. -/
def State.limitedByPolicy (s : State) : Bool :=
  s.demand.st == .noDemand || s.demand.st == .penalty ||
    (s.demand.st == .emergency && !s.params.emergencyDynamic) ||
    s.demand.effective.fields.policy == .airOnly || allAxles.any s.inhibited

/-- R76: the highest reason whose condition holds. -/
def State.limiting (s : State) : Limiting :=
  if s.limitedBySlide then .slide
  else if s.limitedByGrid then .grid
  else if s.limitedByCapability then .capability
  else if s.limitedByCutout then .cutout
  else if s.limitedByPolicy then .policy
  else .none

/-- R60, step 5. -/
def traceBlend (s : State) : State :=
  if s.blendTraceDue then
    let sum := s.blend.targets.toList.sum
    trace (.blend s.blend.commanded sum s.limiting)
      { s with blend := { s.blend with traced := some (s.blend.commanded, sum) } }
  else s

/-! ### A recompute and its hand-offs (R60, R61) -/

/-- R61: to the traction channel. -/
def handTargets (s : State) : State :=
  if s.blend.handedTargets == some s.blend.targets then s
  else takeTargets s.blend.targets { s with blend := { s.blend with handedTargets := some s.blend.targets } }

/-- R61: to the air channel. -/
def handAir (s : State) : State :=
  if s.blend.handedAir == some s.blend.commanded then s
  else takePressures s.blend.commanded { s with blend := { s.blend with handedAir := some s.blend.commanded } }

/-- R61, R97: to the slide unit, which examines arming and its trucks. -/
def handSlide (s : State) : State :=
  if s.blend.handedSlide == some s.blend.commanded then s
  else
    slideRun .exam { s with
      blend := { s.blend with handedSlide := some s.blend.commanded }
      slide := { s.slide with commanded := some s.blend.commanded } }

/-- R60: one recompute; `grids` where its event evaluates them. The results go to the traction channel, the air channel
and the slide unit in this order, each acting at once (R61, log 44). -/
def recompute (grids : Bool) (s : State) : State :=
  let s := if grids then evalGrids s else s
  let s := traceBlend { s with blend := s.blendValues }
  handSlide (handAir (handTargets s))

/-- Recomputes until no hand-off changed the traction channel's state or a slide state (R59, R103, log 33). -/
def recomputeLoop : Nat → Bool → State → State
  | 0, _, s => s
  | n + 1, grids, s =>
    let t := recompute grids s
    if t.traction.st != s.traction.st || slideMoved s t then recomputeLoop n false t else t

/-- R59: a recompute event; none is made while a reset is asserted. -/
def blendEvent (grids : Bool) (s : State) : State := if s.anyReset then s else recomputeLoop 8 grids s

/-- R103: the slide unit's event and the recompute its changes make. -/
def slideEvent (e : SlideEvent) (s : State) : State :=
  let t := slideRun e s
  if slideMoved s t then blendEvent false t else t

end Sys2Proof.Machine
end

