-- ==== Sys2Proof/Machine/Records.lean ====
section
/-! DEFINITION. The records and frames the part takes in: demand records (R35 to R38), directive records (R18) and
received link frames (R115, R116, R209). -/

namespace Sys2Proof.Machine

/-! ### Demand records (12.5) -/

/-- R37 checks 3 and 4, by the Pmax in force at completion (R38): the record, or the reason of its refusal. -/
def demandOfBytes (pmax : Nat) (bs : List Byte) : DemandRecord ⊕ RefusalReason :=
  match DemandMode.ofCode (field 2 1 bs) with
  | none => .inr .mode
  | some m =>
    let e := field 4 2 bs
    let a := field 6 2 bs
    let b := field 8 2 bs
    let pol := field 3 1 bs
    let inh := field 10 1 bs
    if e ≤ 720 && (m != .release || e == 0) && a ≤ pmax && b ≤ pmax && pol ≤ 1 && inh < 64 then
      .inl ⟨field 0 2 bs, ⟨m, e, ⟨a, b⟩, if pol = 0 then .blended else .airOnly, BitVec.ofNat 8 inh⟩⟩
    else .inr .range

/-- R37: the checks of a completed record, in order. -/
def CompletedRecord.judge (r : CompletedRecord) : DemandRecord ⊕ RefusalReason :=
  let bs := beatsBytes r.beats
  if r.torn || !r.present.all id then .inr .torn
  else if field 60 4 bs != crc32 (slice 0 60 bs) then .inr .check
  else demandOfBytes r.pmax bs

/-- R40: the sequence as found in beat 0, 0 when beat 0 was not present. -/
def CompletedRecord.sequenceFound (r : CompletedRecord) : Nat :=
  if r.present.headD false then field 0 2 (beatsBytes r.beats) else 0

/-! ### Directive records (12.6) -/

/-- The fields of a directive record. -/
structure DirectiveRecord where
  code : Nat
  tag : Nat
  args : List Byte
  keyName : Nat
  key : BitVec 64
  crc : Nat
  covered : List Byte
deriving DecidableEq, Repr

def directiveOfBytes (bs : List Byte) : DirectiveRecord :=
  ⟨field 0 1 bs, field 1 2 bs, slice 3 13 bs, field 16 1 bs, BitVec.ofNat 64 (field 17 8 bs), field 28 4 bs,
    slice 0 28 bs⟩

def keyNameOf : Nat → Option KeyName
  | 1 => some .maintenance
  | 2 => some .authority
  | _ => none

/-- A year is a leap year when it is divisible by 4 (R140). -/
def leapYear (y : Nat) : Bool := y % 4 == 0

/-- The length of a month (R140). -/
def monthLength (y m : Nat) : Nat :=
  if m = 2 then (if leapYear y then 29 else 28)
  else if m = 4 ∨ m = 6 ∨ m = 9 ∨ m = 11 then 30 else 31

/-- The date and time that the arguments of SET TIME name, with millisecond 0 (R142). -/
def timeArgument (args : List Byte) : Calendar :=
  ⟨field 0 2 args, field 2 1 args, field 3 1 args, field 4 1 args, field 5 1 args, field 6 1 args, 0⟩

/-- R142: the date exists and lies in the clock's range. -/
def Calendar.settable (c : Calendar) : Bool :=
  (2000 ≤ c.year && c.year ≤ 2099) && (1 ≤ c.month && c.month ≤ 12) &&
    (1 ≤ c.day && c.day ≤ monthLength c.year c.month) && c.hour ≤ 23 && c.minute ≤ 59 && c.second ≤ 60

/-- R18, check 4: the arguments are in the ranges their owner's entry gives, with N slots. -/
def DirectiveCode.argumentsGood (slots : Nat) (args : List Byte) : DirectiveCode → Bool
  | .acknowledgeFlags => field 0 2 args < 0x4000
  | .setIndication => field 0 1 args ≤ 1
  | .setTime => (timeArgument args).settable
  | .armTriggerLine => 1 ≤ field 0 1 args && field 0 1 args ≤ 3
  | .eraseStore => field 0 1 args ≤ 1
  | .retainIncident | .releaseIncident => field 0 2 args < slots
  | .setRetentionLevel => field 0 1 args ≤ 1
  | .clearSlideFault => 1 ≤ field 0 1 args && field 0 1 args ≤ 2
  | .triggerIncident | .setKey | .resetAttributes | .freeze | .resetPenalty | .resetEmergency | .testAirPath
  | .abortAirPathTest | .releaseTraction | .resumeTraction => true

/-! ### Received frames (12.10) -/

/-- The kinds each link carries towards the part (R116). -/
inductive FrameKind where
  | dynReport | releaseAck | airReport | speedSample
deriving DecidableEq, Repr

def frameKindOf (l : Link) (code : Nat) : Option FrameKind :=
  match l with
  | .traction => if code = 0x21 then some .dynReport else if code = 0x22 then some .releaseAck else none
  | .air => if code = 0x41 then some .airReport else none
  | .speed => if code = 0x51 then some .speedSample else none

def FrameKind.length : FrameKind → Nat
  | .dynReport => 18
  | .releaseAck => 1
  | .airReport => 5
  | .speedSample => 16

/-- The data of a DYN_REPORT payload, when its fields are in range (R116). -/
def dynDataOf (p : List Byte) : Option DynData :=
  let one (i : Nat) : Nat := field i 1 p
  let cap : Six Nat := ⟨one 1, one 2, one 3, one 4, one 5, one 6⟩
  let ach : Six Nat := ⟨one 7, one 8, one 9, one 10, one 11, one 12⟩
  let temp : Pair Nat := ⟨field 13 2 p, field 15 2 p⟩
  match ConverterMode.ofCode (field 17 1 p) with
  | none => none
  | some m =>
    if cap.toList.all (fun v => v ≤ 150) && ach.toList.all (fun v => v ≤ 150) &&
        temp.toList.all (fun v => v ≤ 900) then
      some ⟨cap, ach, temp, m⟩
    else none

/-- What a payload of a kind holds, when its fields are in range (R116). -/
def payloadOf (k : FrameKind) (p : List Byte) : Option GoodFrame :=
  match k with
  | .dynReport => (dynDataOf p).map (GoodFrame.dynReport (field 0 1 p))
  | .releaseAck => some (.releaseAck (field 0 1 p))
  | .airReport =>
    if field 1 2 p ≤ 600 && field 3 2 p ≤ 600 then some (.airReport (field 0 1 p) ⟨field 1 2 p, field 3 2 p⟩)
    else none
  | .speedSample =>
    some (.speedSample (field 0 2 p) (field 2 2 p)
      ⟨field 4 2 p, field 6 2 p, field 8 2 p, field 10 2 p, field 12 2 p, field 14 2 p⟩)

/-- R115: judging a whole frame; none for a discarded one. -/
def judgeFrame (l : Link) (frame : List Byte) : Option GoodFrame :=
  let len := field 3 1 frame
  match frameKindOf l (field 1 1 frame) with
  | none => none
  | some k =>
    if len == k.length && field (4 + len) 4 frame == crc32 (slice 1 (3 + len) frame) then
      payloadOf k (slice 4 len frame)
    else none

/-- R209: the frame from its delimiter is whole. -/
def frameWhole (buf : List Byte) : Bool := 4 ≤ buf.length && 8 + field 3 1 buf ≤ buf.length

/-- R209: one byte into a receiver: the frame being received after it. -/
def feedByte (buf : List Byte) (b : Byte) : List Byte :=
  match buf with
  | [] => if b == 0x7E#8 then [b] else []
  | _ :: _ => buf ++ [b]

end Sys2Proof.Machine
end

