-- ==== Sys2Proof/Machine/Demand.lean ====
section
/-! DEFINITION. The demand supervisor: assembly, acceptance and refusal, the demand states, penalty and emergency, and
the hand-off of a change (chapter 3). -/

namespace Sys2Proof.Machine

/-! ### Assembly (R36) -/

/-- A full beat stored in an assembly buffer with its present mark; a partial one tears it (R17, R36). -/
def Assembly.take (i : Nat) (b : WriteBeat) (a : Assembly) : Assembly :=
  if fullBeat b then { a with beats := a.beats.set i b.data, present := a.present.set i true }
  else { a with torn := true }

/-- All marks cleared; the stored beats stay. -/
def Assembly.cleared (a : Assembly) : Assembly := { a with present := a.present.map fun _ => false, torn := false }

/-- R36: one handed beat, at its index. A full beat 7 completes the record. -/
def takeDemandBeat (i : Nat) (b : WriteBeat) (s : State) : State :=
  let asm := s.demand.asm
  if 7 < i then s
  else if i == 7 && fullBeat b then
    let beats := asm.beats.set 7 b.data
    { s with demand := { s.demand with
      asm := { asm.cleared with beats := beats }
      inbox := s.demand.inbox ++ [⟨beats, asm.present, asm.torn, s.params.pmax⟩] } }
  else { s with demand := { s.demand with asm := asm.take i b } }

/-! ### The effective demand (R50) -/

/-- R50: the effective demand that a state, the held independent demand and the last accepted record give. In LIVE
and STALE there is a last accepted record. -/
def effectiveDemand (st : DemandState) (held : Option (Pair Nat)) (last : Option DemandRecord) : EffectiveDemand :=
  match st with
  | .noDemand => .noDemand
  | .live | .stale =>
    match last with
    | some r => ⟨some r.sequence, r.fields⟩
    | none => .noDemand
  | .penalty => ⟨none, ⟨.service, 0, held.getD ⟨0, 0⟩, .airOnly, 0⟩⟩
  | .emergency => ⟨none, ⟨.emergency, 0, ⟨0, 0⟩, .blended, 0⟩⟩

/-- A demand state is entered, with its effective demand (R50). -/
def DemandUnit.enter (x : DemandState) (d : DemandUnit) : DemandUnit :=
  { d with st := x, effective := effectiveDemand x d.held d.last }

/-- R42: entry to NO_DEMAND. -/
def DemandUnit.toNoDemand (d : DemandUnit) : DemandUnit :=
  { d with
    last := none
    failCount := 0
    freshness := .stopped
    grace := .stopped
    held := none
    st := .noDemand
    effective := .noDemand }

def traceDState (old new : DemandState) (cause : DStateCause) (s : State) : State := trace (.dstate old new cause) s

/-! ### The hand-off (R51) -/

/-- R131, R135: the change as the actuator link unit hears it, the traction channel before the air channel (log 40;
entry to STALE: log 39). -/
def linksTakeDemand (mark : HandMark) (s : State) : State :=
  let s := if s.demand.st == .emergency && mark == .state then autoResume false s else s
  if mark == .sequenceAlone then s else endTest .aborted s

/-- A hand-off to the link unit, and the recompute that a change of the traction channel's state makes (R59). -/
def withTractionChange (f : State → State) (s : State) : State :=
  let t := f s
  if t.traction.st != s.traction.st then blendEvent false t else t

/-- R51: a change is handed to the status unit, the slide unit, the blend unit and the actuator link unit (log 14). -/
def handDemand (mark : HandMark) (s : State) : State :=
  let s := { s with status := { s.status with demandHanded := s.demand.st } }
  withTractionChange (linksTakeDemand mark) (blendEvent false (slideRun .exam s))

/-- R51: the same hand-off ahead of a recompute that the event still makes, which then is the blend unit's one
recompute for both (R59). -/
def handAhead (s : State) : State :=
  linksTakeDemand .state (slideRun .exam { s with status := { s.status with demandHanded := s.demand.st } })

/-! ### Penalty and emergency (R46, R47) -/

/-- R45: what the held independent demand captures. -/
def DemandUnit.capture (d : DemandUnit) : Pair Nat :=
  match d.last with
  | some r => r.fields.independent
  | none => ⟨0, 0⟩

/-- R46, steps 1 to 3, and its DSTATE entry: entry to PENALTY from LIVE or STALE. -/
def enterPenalty (c : DStateCause) (s : State) : State :=
  let d : DemandUnit := { s.demand with
    freshness := .stopped, grace := .stopped, penaltyLatch := true, held := some s.demand.capture }
  traceDState s.demand.st .penalty c { s with demand := d.enter .penalty }

/-- R46, steps 5 to 7. -/
def penaltyRequests (t : TriggerCause) (s : State) : State :=
  trigger t (countHealth .penalties (setFlag .penalty s))

/-- R46: a penalty is applied, from LIVE or STALE. -/
def applyPenalty (c : DStateCause) (t : TriggerCause) (s : State) : State :=
  penaltyRequests t (handDemand .state (enterPenalty c s))

/-- R47, steps 1 to 3: the latch, the state and its DSTATE entry. -/
def enterEmergency (c : DStateCause) (s : State) : State :=
  let d : DemandUnit := { s.demand with freshness := .stopped, grace := .stopped, emergencyLatch := true }
  traceDState s.demand.st .emergency c { s with demand := d.enter .emergency }

/-- R47, steps 1 to 5: the emergency brake is applied, from any state other than EMERGENCY; `ahead` of a recompute that
the event still makes (R59). -/
def applyEmergency (ahead : Bool) (c : DStateCause) (s : State) : State :=
  if s.demand.st == .emergency then s
  else
    let s := enterEmergency c s
    setFlag .emergency (if ahead then handAhead s else handDemand .state s)

/-- R48: an emergency line request; none is taken while a reset is asserted. -/
def emergencyLineRequest (ahead : Bool) (s : State) : State :=
  if s.anyReset then s else applyEmergency ahead .emergencyLine s

/-! ### Refusal (R40) -/

/-- R40, in its order: the count in DEMAND_REFUSALS stands before the penalty and its DSTATE entry, against R52 (log 55). -/
def refuseDemand (reason : RefusalReason) (sequence : Nat) (s : State) : State :=
  let s := { s with demand := { s.demand with failCount := satAdd 255 s.demand.failCount } }
  let s := countHealth .demandRefusals (trace (.refusal reason sequence) s)
  if (s.demand.st == .live || s.demand.st == .stale) && s.params.failLimit ≤ s.demand.failCount then
    applyPenalty .penaltyChecks .penaltyChecks s
  else s

/-! ### Acceptance (R39, R41) -/

/-- R41: whether the record has a DEMAND entry. -/
def demandTraced (last : Option DemandRecord) (r : DemandRecord) (gap : Bool) : Bool :=
  match last with
  | none => true
  | some l => gap || l.fields != r.fields

/-- R51: the mark of a record accepted in LIVE. -/
def recordMark (last : Option DemandRecord) (r : DemandRecord) : HandMark :=
  match last with
  | some l => if l.fields == r.fields then .sequenceAlone else .fields
  | none => .fields

/-- R41: a RELEASE or SERVICE record brings the supervisor to LIVE, or keeps it there. -/
def acceptLive (last : Option DemandRecord) (r : DemandRecord) (s : State) : State :=
  let old := s.demand.st
  let d : DemandUnit := { s.demand with grace := .stopped, freshness := s.timer s.params.freshness }
  let s := { s with demand := d.enter .live }
  match old with
  | .noDemand => handDemand .state (traceDState .noDemand .live .firstRecord s)
  | .stale => handDemand .state (traceDState .stale .live .record s)
  | .live | .penalty | .emergency => handDemand (recordMark last r) s

/-- R41: an accepted record. -/
def acceptDemand (r : DemandRecord) (gap : Bool) (s : State) : State :=
  let last := s.demand.last
  let s := { s with demand := { s.demand with last := some r, failCount := 0 } }
  let s := if demandTraced last r gap then trace (.demand r gap) s else s
  match r.fields.mode with
  | .emergency =>
    if s.demand.st == .emergency then s
    else trigger .emergencyDemand (applyEmergency false .emergencyDemand s)
  | .release | .service =>
    match s.demand.st with
    | .noDemand | .live | .stale => acceptLive last r s
    | .penalty | .emergency => s

/-- R39: a record that passed its checks, by its sequence number. -/
def ruleSequence (r : DemandRecord) (s : State) : State :=
  match s.demand.last with
  | none => acceptDemand r false s
  | some l =>
    if r.sequence == l.sequence then s
    else acceptDemand r (r.sequence != (l.sequence + 1) % 65536) s

/-- R37: a completed record. -/
def takeDemandRecord (c : CompletedRecord) (s : State) : State :=
  match c.judge with
  | .inl r => ruleSequence r s
  | .inr reason => refuseDemand reason c.sequenceFound s

/-! ### Timers (R43, R44) -/

/-- R44: grace expiry in STALE. -/
def graceExpired (s : State) : State := applyPenalty .penaltyStale .penaltyStale s

/-- R43: entry to STALE, with its DSTATE entry. -/
def enterStale (s : State) : State :=
  let d : DemandUnit := { s.demand with freshness := .stopped, grace := s.timer s.params.grace }
  traceDState .live .stale .freshness { s with demand := d.enter .stale }

/-- R43, R44: freshness expiry in LIVE. A grace period of 0 ms expires in the same event: both changes are traced
before the hand-off (R52). -/
def freshnessExpired (s : State) : State :=
  if s.params.grace == 0 then
    penaltyRequests .penaltyStale (setFlag .demandStale (handDemand .state (enterPenalty .penaltyStale (enterStale s))))
  else setFlag .demandStale (handDemand .state (enterStale s))

end Sys2Proof.Machine
end

