-- ==== Sys2Proof/Machine/DemandSteps.lean ====
section
/-! DEFINITION. The meanings of the demand supervisor's steps (R37, R43, R44). -/

namespace Sys2Proof.Machine

/-- R37: the supervisor takes the first completed record that awaits it. -/
def takeInbox (s : State) : State :=
  match s.demand.inbox with
  | c :: rest => takeDemandRecord c { s with demand := { s.demand with inbox := rest } }
  | [] => s

/-- DEMAND_RECORD (R37). -/
def execDemandRecord (s : State) : Host.Outcome State Fault Refusal := run takeInbox s

/-- FRESHNESS_TIMER_EXPIRY (R43). The timer runs only in LIVE. -/
def execFreshnessTimerExpiry (s : State) : Host.Outcome State Fault Refusal :=
  run (guarded (fun s => s.demand.freshness.isRunning && s.demand.st == .live) freshnessExpired) s

/-- GRACE_TIMER_EXPIRY (R44). The timer runs only in STALE. -/
def execGraceTimerExpiry (s : State) : Host.Outcome State Fault Refusal :=
  run (guarded (fun s => s.demand.grace.isRunning && s.demand.st == .stale) graceExpired) s

end Sys2Proof.Machine
end

