-- ==== Sys2Proof/Machine/Decoder.lean ====
section
/-! DEFINITION. The directive decoder and the key check (R17 to R19, R183 to R185). -/

namespace Sys2Proof.Machine

/-- R18, check 5: the slot is empty, or ABORT AIR PATH TEST finds TEST AIR PATH in it. -/
def State.slotAdmits (s : State) (c : DirectiveCode) : Bool :=
  match s.decoder.slot with
  | none => true
  | some x => c == .abortAirPathTest && x.code == .testAirPath

/-- R18, check 4. -/
def DirectiveRecord.argumentsGood (s : State) (r : DirectiveRecord) (c : DirectiveCode) : Bool :=
  c.argumentsGood s.params.slots r.args && (!c.keyBearing || (keyNameOf r.keyName).isSome)

/-- R19: dispatch: the slot is taken, but by an abort beside TEST AIR PATH. -/
def dispatchDirective (c : DirectiveCode) (r : DirectiveRecord) (s : State) : State :=
  match s.decoder.slot with
  | none =>
    { s with decoder := { s.decoder with slot := some ⟨c, r.tag, r.args, keyNameOf r.keyName, r.key, true⟩ } }
  | some _ => { s with decoder := { s.decoder with aborts := s.decoder.aborts ++ [r.tag] } }

/-- R18: a completed record, of these bytes, whose beats were whole or not. -/
def checkDirective (whole : Bool) (r : DirectiveRecord) (s : State) : State :=
  if !whole || r.crc != crc32 r.covered then publish 0 0 .check s
  else
    match DirectiveCode.ofCode r.code with
    | none => publish r.tag r.code .unknown s
    | some c =>
      if !r.argumentsGood s c then publish r.tag r.code .argument s
      else if !s.slotAdmits c then publish r.tag r.code .busy s
      else dispatchDirective c r s

/-- R17: one handed beat, at its index. A full beat 3 completes the record. -/
def takeDirectiveBeat (i : Nat) (b : WriteBeat) (s : State) : State :=
  let asm := s.decoder.asm
  if 3 < i then s
  else if i == 3 && fullBeat b then
    let beats := asm.beats.set 3 b.data
    checkDirective (asm.present.all id && !asm.torn) (directiveOfBytes (beatsBytes beats))
      { s with decoder := { s.decoder with asm := { asm.cleared with beats := beats } } }
  else { s with decoder := { s.decoder with asm := asm.take i b } }

/-! ### The key check (R183 to R185) -/

def Retention.keyOf (r : Retention) : KeyName → Option (BitVec 64)
  | .maintenance => r.maintenance
  | .authority => r.authority

/-- R184: the keys a directive accepts, at level STRICT or STANDARD. -/
def DirectiveCode.accepts (strict : Bool) (k : KeyName) : DirectiveCode → Bool
  | .releaseIncident | .eraseStore => k == .authority || !strict
  | .setRetentionLevel => k == .authority
  | .resetAttributes | .releaseTraction => k == .maintenance
  | .setKey => true
  | _ => false

/-- The answers of the key check. -/
inductive KeyAnswer where
  | refused (r : DirResult)
  | accepted (compared : Bool)
deriving DecidableEq, Repr

/-- R183, steps 3 and 4, for the key named. -/
def keyCompare (r : Retention) (x : Slot) (k : KeyName) : KeyAnswer :=
  match r.keyOf k with
  | none => if x.code == .setKey then .accepted false else .refused .unset
  | some v => if x.code.accepts r.strict k && v == x.key then .accepted true else .refused .key

/-- R183. A key-bearing directive in the slot has passed check 4 of R18, so it names a key. -/
def keyCheck (r : Retention) (x : Slot) : KeyAnswer :=
  if r.frozen && x.code != .releaseTraction then .refused .frozen
  else if r.lock then .refused .locked
  else keyCompare r x (x.keyName.getD .maintenance)

/-- R185: a refusal KEY counts, and the fifth sets the lock. -/
def Retention.failedAttempt (r : Retention) : Retention :=
  let n := satAdd 5 r.failed
  { r with failed := n, lock := r.lock || n == 5 }

/-- R183, R185: the key check of the directive in the slot, which then goes to its owner. -/
def keyed (x : Slot) (owner : State → State) (s : State) : State :=
  match keyCheck s.retention x with
  | .refused r =>
    finish x.code r (if r == .key then { s with retention := s.retention.failedAttempt } else s)
  | .accepted compared =>
    owner (if compared then { s with retention := { s.retention with failed := 0 } } else s)

/-- The directive in the slot that awaits its dispatch answer (R19). -/
def State.awaiting (s : State) (c : DirectiveCode) : Option Slot :=
  match s.decoder.slot with
  | some x => if x.code == c && x.awaiting then some x else none
  | none => none

/-- A directive's step: the owner acts on the dispatched directive; nothing where it is not there (log 3). -/
def onDirective (c : DirectiveCode) (f : Slot → State → State) (s : State) : State :=
  match s.awaiting c with
  | some x => f x s
  | none => s

end Sys2Proof.Machine
end

