-- ==== Sys2Proof/Machine/ConfigRecord.lean ====
section
/-! DEFINITION. The anchor block and the configuration record: the checks of R23 and R26 to R29, and the windows and
parameters a good record holds (sections 12.3 and 12.4). -/

namespace Sys2Proof.Machine

/-! ### Anchor block (R23) -/

/-- R23: the marker, the checksum over beats 0 and 1, and the alignment of the record address. -/
def anchorGood (bs : List Byte) : Bool :=
  field 0 4 bs == 0x41535431 && checksumHolds (slice 0 16 bs) && field 4 4 bs % 8 == 0

def anchorConfigAddr (bs : List Byte) : Addr := BitVec.ofNat 32 (field 4 4 bs)

/-! ### Window table -/

def windowKindOf : Nat → Option WindowKind
  | 0 => some .unused
  | 1 => some .demand
  | 2 => some .directive
  | 3 => some .served
  | 4 => some .guarded
  | 5 => some .watch
  | _ => none

/-- Window entry k (12.4). A kind without a code fails R27 before it is used. -/
def parseWindow (bs : List Byte) (k : Nat) : Window :=
  ⟨(windowKindOf (field (16 + 16 * k) 1 bs)).getD .unused, field (20 + 16 * k) 4 bs, field (24 + 16 * k) 4 bs⟩

def parseWindows (bs : List Byte) : List Window := (List.range 8).map (parseWindow bs)

/-- Two windows that are in use share a byte (R28). -/
def Window.overlaps (x y : Window) : Bool :=
  x.kind != .unused && y.kind != .unused && x.base < y.base + y.size && y.base < x.base + x.size

/-- R28: the size rule of each kind, with N. -/
def Window.sizeGood (n : Nat) (w : Window) : Bool :=
  match w.kind with
  | .unused => true
  | .demand | .directive | .served => w.size == 4096
  | .watch => w.size % 4096 == 0 && (4096 ≤ w.size && w.size ≤ 1048576)
  | .guarded => w.size % 4096 == 0 && (4096 + (n * 2048 + 4095) / 4096 * 4096 ≤ w.size && w.size ≤ 16777216)

/-- R28: the rules on one entry alone. -/
def Window.aloneGood (anchor : Addr) (n : Nat) (w : Window) : Bool :=
  w.kind == .unused ||
    (w.base % 4096 == 0 && w.sizeGood n && w.base + w.size ≤ 2 ^ 32 &&
      !(w.base < anchor.toNat + 256 && anchor.toNat < w.base + w.size))

/-- R28: the lowest index of an entry of a kind. -/
def kindIndex (ws : List Window) (k : WindowKind) : Nat :=
  let i := ws.findIdx (fun w => w.kind == k)
  if i < ws.length then i else 0

/-- R28: entry i is reported for a missing or repeated kind. -/
def kindBreak (ws : List Window) (i : Nat) (k : WindowKind) : Bool :=
  ws.countP (fun w => w.kind == k) != 1 && kindIndex ws k == i

/-- R28: entry i breaks a rule that is reported with its index. -/
def windowBreaks (anchor : Addr) (n : Nat) (ws : List Window) (i : Nat) : Bool :=
  let w := ws.getD i ⟨.unused, 0, 0⟩
  [WindowKind.demand, .directive, .served, .guarded].any (kindBreak ws i) ||
    !w.aloneGood anchor n || (ws.take i).any (fun v => v.overlaps w)

/-- R28: the lowest index of an entry that breaks a rule. -/
def firstWindowBreak (anchor : Addr) (n : Nat) (ws : List Window) : Option Nat :=
  (List.range ws.length).find? (windowBreaks anchor n ws)

/-! ### Parameter fields (12.4) -/

def debounceOf : Nat → Debounce
  | 1 => .ms4
  | 2 => .ms16
  | 3 => .ms50
  | _ => .none

def lineClassOf : Nat → LineClass
  | 1 => .serious
  | 3 => .operator
  | 5 => .emergency
  | _ => .advisory

def flagOf : Nat → Option EventFlag
  | 0 => some .demandStale
  | 1 => some .penalty
  | 2 => some .emergency
  | 3 => some .slide
  | 4 => some .slideFault
  | 5 => some .grid
  | 6 => some .linkLost
  | 7 => some .sensorLost
  | 8 => some .incidentClosed
  | 9 => some .storeAlert
  | 10 => some .attributeExceeded
  | 11 => some .directiveDone
  | 12 => some .pathViolation
  | 13 => some .clockInvalid
  | _ => none

def indicationSourceOf (v : Nat) : IndicationSource :=
  match flagOf v with
  | some f => .flag f
  | none => if v = 14 then .latched else .direct

/-- Trigger line field j, 0 to 2. -/
def parseLine (bs : List Byte) (j : Nat) : LineConfig :=
  let o := 210 + 5 * j
  ⟨field o 1 bs == 1, debounceOf (field (o + 1) 1 bs), field (o + 2) 1 bs == 1, lineClassOf (field (o + 3) 1 bs),
    field (o + 4) 1 bs == 1⟩

/-- Health field a, 0 to 7. -/
def parseHealth (bs : List Byte) (a : Nat) : HealthConfig :=
  ⟨field (230 + 3 * a) 2 bs, field (232 + 3 * a) 1 bs == 1⟩

/-- Fields 9 to 69 (12.4). -/
def parseParams (bs : List Byte) : Params where
  freshness := field 144 2 bs
  grace := field 146 2 bs
  failLimit := field 148 1 bs
  gain := ⟨field 149 1 bs, field 150 1 bs⟩
  pmax := field 151 2 bs
  penalty := field 153 2 bs
  emergency := field 155 2 bs
  holdPressure := field 157 2 bs
  cutout := field 159 2 bs
  emergencyDynamic := field 161 1 bs == 1
  recoveryFraction := field 162 1 bs
  derate := field 163 2 bs
  trip := field 165 2 bs
  resetTemp := field 167 2 bs
  deceleration := field 169 1 bs
  rise := field 170 1 bs
  standstillSpeed := field 171 1 bs
  standstillDwell := field 172 1 bs
  sensorTimeout := field 173 2 bs
  armingFloor := field 175 1 bs
  slipOn := field 176 1 bs
  slipOff := field 177 1 bs
  ratioOn := field 178 1 bs
  recoveryDwell := field 179 2 bs
  holdDwell := field 181 2 bs
  reapplyDwell := field 183 2 bs
  reapplyFraction := field 185 1 bs
  maxRelease := field 186 2 bs
  replyTimeout := field 188 1 bs
  missLimit := field 189 1 bs
  restoreCount := field 190 1 bs
  keepalive := field 191 2 bs
  releaseTimeout := field 193 2 bs
  testPressure := field 195 2 bs
  testTolerance := field 197 1 bs
  phaseTimeout := field 198 2 bs
  postCount := field 200 1 bs
  captureWindow := field 201 1 bs
  pressureStep := field 202 1 bs
  dynamicStep := field 203 1 bs
  watchTracing := field 204 1 bs == 1
  slots := field 205 2 bs
  autoRetain := field 207 1 bs == 1
  storeHigh := field 208 1 bs == 1
  waitLimit := field 209 1 bs
  lines := ⟨parseLine bs 0, parseLine bs 1, parseLine bs 2⟩
  enableSet := BitVec.ofNat 16 (field 225 2 bs)
  source := indicationSourceOf (field 227 1 bs)
  invert := field 228 1 bs == 1
  activation := field 229 1 bs
  health := ⟨parseHealth bs 0, parseHealth bs 1, parseHealth bs 2, parseHealth bs 3, parseHealth bs 4,
    parseHealth bs 5, parseHealth bs 6, parseHealth bs 7⟩

/-- The value of a numeric field lies within its bounds (R27). -/
def inRange (bs : List Byte) (off n lo hi : Nat) : Bool := lo ≤ field off n bs && field off n bs ≤ hi

/-- R27 for a trigger line field: each part one of its codes. -/
def lineGood (bs : List Byte) (j : Nat) : Bool :=
  let o := 210 + 5 * j
  inRange bs o 1 0 1 && inRange bs (o + 1) 1 0 3 && inRange bs (o + 2) 1 0 1 &&
    (inRange bs (o + 3) 1 1 3 || field (o + 3) 1 bs == 5) && inRange bs (o + 4) 1 0 1

/-- R27 for a health field. -/
def healthGood (bs : List Byte) (a : Nat) : Bool := inRange bs (232 + 3 * a) 1 0 1

/-- R27: whether each of fields 1 to 69 is in range, in field-number order. -/
def fieldsGood (bs : List Byte) : List Bool :=
  ((List.range 8).map fun k => inRange bs (16 + 16 * k) 1 0 5) ++
  [inRange bs 144 2 20 1000, inRange bs 146 2 0 2000, inRange bs 148 1 1 8, inRange bs 149 1 10 200,
    inRange bs 150 1 10 200, inRange bs 151 2 200 450, inRange bs 153 2 150 450, inRange bs 155 2 200 550,
    inRange bs 157 2 50 450, inRange bs 159 2 0 200, inRange bs 161 1 0 1, inRange bs 162 1 25 100,
    inRange bs 163 2 300 700, inRange bs 165 2 320 760, inRange bs 167 2 200 680, inRange bs 169 1 5 50,
    inRange bs 170 1 5 50, inRange bs 171 1 2 20, inRange bs 172 1 1 30, inRange bs 173 2 50 500] ++
  [inRange bs 175 1 10 100, inRange bs 176 1 10 100, inRange bs 177 1 5 99, inRange bs 178 1 2 30,
    inRange bs 179 2 100 2000, inRange bs 181 2 100 2000, inRange bs 183 2 100 3000, inRange bs 185 1 30 90,
    inRange bs 186 2 1000 8000, inRange bs 188 1 5 100, inRange bs 189 1 1 8, inRange bs 190 1 1 8,
    inRange bs 191 2 10 500, inRange bs 193 2 100 5000, inRange bs 195 2 100 450, inRange bs 197 1 5 50,
    inRange bs 198 2 500 10000, inRange bs 200 1 0 24, inRange bs 201 1 1 60, inRange bs 202 1 1 50,
    inRange bs 203 1 1 50, inRange bs 204 1 0 1] ++
  [inRange bs 205 2 8 256, inRange bs 207 1 0 1, inRange bs 208 1 0 1, inRange bs 209 1 1 32,
    lineGood bs 0, lineGood bs 1, lineGood bs 2, inRange bs 225 2 0 0x3FFF, inRange bs 227 1 0 15,
    inRange bs 228 1 0 1, true] ++
  (List.range 8).map (healthGood bs)

/-- The number, counted from 1, of the first check that fails. -/
def firstFailing (checks : List Bool) : Option Nat :=
  let i := checks.findIdx (fun b => !b)
  if i < checks.length then some (i + 1) else none

/-- R29, in order. -/
def orderChecks (p : Params) : List Bool :=
  [p.slipOff < p.slipOn, p.resetTemp + 20 ≤ p.derate && p.derate + 20 ≤ p.trip,
    p.penalty ≤ p.pmax && p.pmax ≤ p.emergency, p.holdPressure ≤ p.pmax, p.testPressure ≤ p.pmax]

/-- R26: the load result code and detail of the first failing check, none for a candidate that passes. -/
def configFailure (anchor : Addr) (bs : List Byte) : Option (LoadCode × Nat) :=
  if !checksumHolds (slice 0 512 bs) then some (.configChecksum, 0)
  else if field 0 2 bs != 1 then some (.configVersion, 0)
  else match firstFailing (fieldsGood bs) with
    | some n => some (.configRange, n)
    | none =>
      match firstWindowBreak anchor (field 205 2 bs) (parseWindows bs) with
      | some i => some (.configWindows, i)
      | none => (firstFailing (orderChecks (parseParams bs))).map fun n => (.configOrder, n)

/-- The beats of the result word write: its address and the one beat (R23, 12.3). -/
def resultBeat (r : LoadResult) : WriteBeat :=
  ⟨beatOf (byte1 r.code.code ++ byte1 r.detail ++ optBytes 1 (r.origin.map LoadOrigin.code) ++ zeros 5), 0x0F⟩

end Sys2Proof.Machine
end

