-- ==== Sys2Proof/Machine/Lines.lean ====
section
/-! DEFINITION. The trigger lines: detection, the debounced judgement, and the lines' start at a reset or a load
(R147 to R150, R156). -/

namespace Sys2Proof.Machine

def setLine (l : Line) (f : LineState → LineState) (s : State) : State :=
  { s with lines := s.lines.set l (f (s.lines.get l)) }

/-- R150: a line that is not repeating is disarmed by its detection. -/
def disarmLine (l : Line) (s : State) : State :=
  if (s.params.lines.get l).repeating then s else setLine l (fun v => { v with armed := false }) s

/-- R150: a detection of class EMERGENCY makes an emergency line request. -/
def lineEmergency (ahead : Bool) (l : Line) (s : State) : State :=
  if (s.params.lines.get l).cls == .emergency then emergencyLineRequest ahead s else s

/-- R150: a detection, `ahead` of a recompute that its event still makes (R59). No line is detected while a reset is
asserted (R147). The class of a TRIGGER entry: log 20. Triggers that answer the emergency line request reach incident
assembly before the line's own (log 49). -/
def detect (ahead : Bool) (l : Line) (s : State) : State :=
  if s.anyReset then s
  else
    let c := s.params.lines.get l
    if (s.lines.get l).armed then
      let x := stamp (.line l) c.cls.incident s
      assemble x (lineEmergency ahead l (disarmLine l (traceTrigger x s)))
    else trace (.trigger (.line l) c.cls.code false) s

/-- R149: the detector after an expiry that finds a level. -/
def detectorNext (d : Detector) (active : Bool) : Detector :=
  if active then
    match d with
    | .clear => .seen
    | .seen | .detected => .detected
  else .clear

/-- The debounce timer of a line, started with the period in force; NONE has none (R156). -/
def State.debounceTimer (s : State) (l : Line) : Timer :=
  match (s.params.lines.get l).debounce.period with
  | some p => s.timer p
  | none => .stopped

/-- R149: the debounce timer's expiry; the timer restarts. -/
def debounceExpired (l : Line) (s : State) : State :=
  let v := s.lines.get l
  let d := detectorNext v.detector (lineActive (s.params.lines.get l) v)
  let t := setLine l (fun v => { v with detector := d, debounce := s.debounceTimer l }) s
  if v.detector == .seen && d == .detected then detect false l t else t

/-- R148: the detector of a line with debounce NONE follows its level. -/
def followLevel (ahead : Bool) (l : Line) (s : State) : State :=
  let v := s.lines.get l
  if lineActive (s.params.lines.get l) v then
    if v.detector == .clear then detect ahead l (setLine l (fun v => { v with detector := .detected }) s) else s
  else setLine l (fun v => { v with detector := .clear }) s

/-- R148: a line with debounce NONE that a release or an install step finds ACTIVE is detected. -/
def detectAtStart (ahead : Bool) (s : State) (l : Line) : State :=
  if (s.params.lines.get l).debounce == .none then followLevel ahead l s else s

/-- R144, R148: the lines detected in the event of a release or an install step, line 1 first. -/
def detectLines (ahead : Bool) (s : State) : State :=
  detectAtStart ahead (detectAtStart ahead (detectAtStart ahead s .l1) .l2) .l3

/-- R156: at a release every detector is CLEAR and the debounce timers start. -/
def startLine (s : State) (l : Line) : State :=
  setLine l (fun v => { v with detector := .clear, debounce := s.debounceTimer l }) s

def startLines (s : State) : State := startLine (startLine (startLine s .l1) .l2) .l3

/-- R156: the install step, with the line configuration before it. -/
def installLine (old : Three LineConfig) (s : State) (l : Line) : State :=
  let o := old.get l
  let n := s.params.lines.get l
  setLine l (fun v => { v with
    armed := n.armedAtLoad
    detector := if o.activeLow == n.activeLow && o.debounce == n.debounce then v.detector else .clear
    debounce := if o.debounce == n.debounce then v.debounce else s.debounceTimer l }) s

def installLines (old : Three LineConfig) (s : State) : State :=
  installLine old (installLine old (installLine old s .l1) .l2) .l3

/-- R147: while a reset is asserted the debounce timers are stopped (R156). -/
def stopLines (v : Three LineState) : Three LineState :=
  ⟨{ v.l1 with debounce := .stopped }, { v.l2 with debounce := .stopped }, { v.l3 with debounce := .stopped }⟩

end Sys2Proof.Machine
end

