-- ==== Sys2Proof/Machine/Speed.lean ====
section
/-! DEFINITION. The speed unit: samples, reference, slip, standstill and the link's states (chapter 5). -/

namespace Sys2Proof.Machine

/-! ### Reference (R82, R87, R88) -/

/-- R83: a speed field of a sample. -/
def axleSpeedOf (v : Nat) : AxleSpeed := if v ≤ 1600 then .speed v else .invalid

/-- R87: the highest valid speed of a sample. -/
def candidateOf (axles : Six AxleSpeed) : Option Nat :=
  axles.toList.foldl (fun best a =>
    match a, best with
    | .speed v, some b => some (max v b)
    | .speed v, none => some v
    | _, _ => best) none

/-- R82: the interval of a sample since the last one. -/
def intervalOf (last : Option Nat) (time : Nat) : Option Nat := last.map fun t => (time + 65536 - t) % 65536

/-- R82. -/
def isRestart (interval : Option Nat) : Bool :=
  match interval with
  | none => true
  | some dt => dt == 0 || 1000 < dt

/-- The reference with its limit remainder. -/
structure Reference where
  value : Option Nat
  remainder : Nat
  direction : Direction
deriving DecidableEq, Repr

/-- R87: the new reference, not a restart, for a candidate and an interval. The reference after an UNKNOWN one is not
stated (log 16): a free value within 160.0 km/h. -/
def moveReference (p : Params) (free : Nat) (old : Reference) (cand dt : Nat) : Reference :=
  match old.value with
  | none => ⟨some (min 1600 (Config.referenceAfterUnknown free cand dt)), 0, .none⟩
  | some r =>
    if r < cand then
      let a := p.rise * dt + (if old.direction == .rise then old.remainder else 0)
      if cand ≤ r + a / 1000 then ⟨some cand, 0, .none⟩ else ⟨some (r + a / 1000), a % 1000, .rise⟩
    else if cand < r then
      let a := p.deceleration * dt + (if old.direction == .fall then old.remainder else 0)
      if r ≤ cand + a / 1000 then ⟨some cand, 0, .none⟩ else ⟨some (r - a / 1000), a % 1000, .fall⟩
    else ⟨some cand, 0, .none⟩

/-- R82, R87, R88: the reference after an accepted sample. -/
def referenceAfter (p : Params) (free : Nat) (old : Reference) (cand interval : Option Nat) : Reference :=
  match cand with
  | none => ⟨old.value, 0, .none⟩
  | some c =>
    match interval with
    | none => ⟨some c, 0, .none⟩
    | some dt => if isRestart (some dt) then ⟨some c, 0, .none⟩ else moveReference p free old c dt

/-- R89. -/
def slipOf (reference : Option Nat) (a : AxleSpeed) : Option Nat :=
  match a, reference with
  | .speed v, some r => some (r - v)
  | _, _ => none

/-- R90: the cutout mark for a reference. -/
def cutoutOf (p : Params) (reference : Option Nat) : Cutout :=
  match reference with
  | none => .none
  | some r => if r < p.cutout then .below else .atOrAbove

/-- R91: the standstill state after an accepted sample. -/
def standstillAfter (p : Params) (st : Standstill) (cand reference : Option Nat) : Standstill :=
  match cand, reference with
  | some _, some r =>
    if r < p.standstillSpeed then
      match st with
      | .unknown | .moving | .dwelling => .dwelling
      | .confirmed => .confirmed
    else .moving
  | _, _ => .unknown

/-- R91: the dwell timer goes with DWELLING. -/
def dwellAfter (s : State) (new : Standstill) : Timer :=
  match s.speed.standstill, new with
  | .dwelling, .dwelling => s.speed.dwell
  | _, .dwelling => s.timer (s.params.standstillDwell * 1000)
  | _, _ => .stopped

/-- R82 to R91: the speed unit after an accepted sample. -/
def speedAfter (number time : Nat) (speeds : Six Nat) (s : State) : SpeedUnit :=
  let u := s.speed
  let axles := Six.ofFn fun x => axleSpeedOf (speeds.get x)
  let cand := candidateOf axles
  let r := referenceAfter s.params s.free ⟨u.reference, u.remainder, u.direction⟩ cand (intervalOf u.time time)
  let st := standstillAfter s.params u.standstill cand r.value
  { link := .active
    number := some number
    time := some time
    sensor := s.timer s.params.sensorTimeout
    axles := axles
    slips := Six.ofFn fun x => slipOf r.value (axles.get x)
    reference := r.value
    remainder := r.remainder
    direction := r.direction
    cutout := cutoutOf s.params r.value
    standstill := st
    dwell := dwellAfter s st }

/-- R85, R86: the speed link enters a state, with its CHANNEL entry. -/
def traceSpeedLink (x : LinkState) (s : State) : State := trace (.channel .speed (.stateChange x.code)) s

/-- R92: what the actuator link unit hears of a change of the standstill state. -/
def handStandstill (old new : Standstill) (s : State) : State :=
  if old == .confirmed && new != .confirmed then linksLoseStandstill (new == .moving) s else s

/-- R90: the hand-offs of an event: the slide unit, the link unit, then one recompute where anything changed. -/
def handSpeed (e : SlideEvent) (old : SpeedUnit) (s : State) : State :=
  let t := handStandstill old.standstill s.speed.standstill (slideRun e s)
  if old.link != s.speed.link || old.cutout != s.speed.cutout || slideMoved s t ||
      s.traction.st != t.traction.st then
    blendEvent false t
  else t

/-- R81, R86, R90: an accepted sample. -/
def acceptSample (number time : Nat) (speeds : Six Nat) (s : State) : State :=
  let old := s.speed
  let s := { s with speed := speedAfter number time speeds s, free := s.free + 1 }
  let s := if old.link == .active then s else traceSpeedLink .active s
  handSpeed { SlideEvent.exam with sample := true } old s

/-- R81: a good SPEED_SAMPLE; a duplicate is ignored whole. -/
def takeSample (number time : Nat) (speeds : Six Nat) (s : State) : State :=
  if s.anyReset || s.speed.number == some number then s else acceptSample number time speeds s

/-- R85: the speed unit at entry to LOST. -/
def SpeedUnit.lose (u : SpeedUnit) : SpeedUnit :=
  { u with
    link := .lost
    sensor := .stopped
    axles := Six.all .none
    slips := Six.all none
    remainder := 0
    direction := .none
    standstill := .unknown
    dwell := .stopped }

/-- R85: entry to LOST. -/
def loseSpeedLink (s : State) : State :=
  let old := s.speed
  let s := traceSpeedLink .lost { s with speed := s.speed.lose }
  let s := handSpeed { SlideEvent.exam with lost := true } old s
  trigger .sensorLost (setFlag .sensorLost s)

/-- R91, R109: the dwell timer's expiry in DWELLING. -/
def confirmStandstill (s : State) : State :=
  slideEvent { SlideEvent.quiet with confirmed := true }
    { s with speed := { s.speed with standstill := .confirmed, dwell := .stopped } }

/-- R93: the speed unit's reset values. -/
def SpeedUnit.initial : SpeedUnit :=
  ⟨.starting, none, none, .stopped, Six.all .none, Six.all none, none, 0, .none, .none, .unknown, .stopped⟩

end Sys2Proof.Machine
end

