-- ==== Sys2Proof/Machine/Loader.lean ====
section
/-! DEFINITION. The loader: loads, results, the install step and the store scan's handover, and the meanings of its
commands (chapter 2, R174). -/

namespace Sys2Proof.Machine

/-! ### Bursts and results (R25) -/

/-- R25: a LOAD burst waits to be presented, and is presented where none is. -/
def queueLoad (bs : List LoadBurst) (s : State) : State :=
  presentLoad { s with loader := { s.loader with queue := s.loader.queue ++ bs } }

def anchorBurst (anchor : Addr) : LoadBurst := ⟨.anchor, .read anchor 2, false⟩

/-- R25: the eight bursts of the configuration read; above the top of the address space their addresses go on from 0
(log 42). -/
def configBursts (a : Addr) : List LoadBurst :=
  (List.range 8).map fun k => ⟨.config, .read (a + BitVec.ofNat 32 (64 * k)) 8, false⟩

/-- R23, R25: the result word write. -/
def resultBurst (anchor : Addr) (r : LoadResult) : LoadBurst :=
  ⟨.result, .write (anchor + 16) [resultBeat r], false⟩

/-- R25: a load result is set, its mark cleared, and the result word written. -/
def setResult (code : LoadCode) (detail : Nat) (origin : LoadOrigin) (s : State) : State :=
  let r : LoadResult := ⟨code, detail, some origin⟩
  queueLoad [resultBurst s.loader.anchor r] { s with loader := { s.loader with result := r, reached := false } }

/-- R24: a load begins with the anchor read. -/
def beginLoad (origin : LoadOrigin) (s : State) : State :=
  queueLoad [anchorBurst s.loader.anchor]
    { s with loader := { s.loader with st := .readingAnchor, origin := origin, candidate := [], checked := false } }

/-- R31, R33: a load fails: to FAULT and CONFIG_FAULT, or for a reload to READY. -/
def failLoad (code : LoadCode) (detail : Nat) (s : State) : State :=
  let reload := s.loader.origin == .reload
  setResult code detail s.loader.origin
    { s with loader := { s.loader with
      st := if reload then .ready else .fault
      configFault := s.loader.configFault || !reload
      candidate := []
      checked := false } }

/-! ### Run-time reload (R32) -/

/-- R32: the reason of the first failing condition. -/
def State.reloadRefusal (s : State) : Option ReloadReason :=
  if !s.standing then some .moving
  else if s.demand.st == .penalty || s.demand.st == .emergency then some .latched
  else if s.recorder.st != .idle || s.recorder.waiting.isSome then some .recorderBusy
  else if s.decoder.slot.isSome then some .directiveBusy
  else if s.retention.frozen then some .frozen
  else none

/-- R24, R31, R32: a reload request reaches the loader. -/
def takeReloadRequest (s : State) : State :=
  match s.loader.st with
  | .ready =>
    match s.reloadRefusal with
    | some reason => setResult .reloadRefused reason.code .reload s
    | none => beginLoad .reload s
  | .fault => beginLoad .retry s
  | .idle | .readingAnchor | .readingConfig | .checking | .scanning => s

/-- R24: the loader takes one of the requests handed to it. -/
def takeOneRequest (s : State) : State :=
  takeReloadRequest { s with loader := { s.loader with requests := s.loader.requests - 1 } }

/-! ### The store scan's handover (R174) -/

/-- R174: the recorder takes the store scan; a sequence running or waiting ends. -/
def handScan (s : State) : State :=
  let s := dropStoreClaim (discardStore s)
  askSequence .scan { s with recorder := { s.recorder with
    running := none
    queue := []
    store := .scanning
    image := List.replicate s.params.slots .unread
    nextSlot := 0
    scan := some ⟨[], 0, [], [], 0⟩ } }

/-! ### The install step (R30, R33) -/

/-- R33: whether the GUARDED base, the GUARDED size or N differ. -/
def geometryDiffers (s : State) (ws : List Window) (p : Params) : Bool :=
  (s.windowOf .guarded) != (ws.find? fun w => w.kind == .guarded) || s.params.slots != p.slots

/-- R78: the blend unit's core-reset values; the pressures keep theirs. -/
def BlendUnit.coreReset (b : BlendUnit) : BlendUnit :=
  { b with
    targets := Six.all 0
    held := ⟨none, none⟩
    grid := ⟨.cool, .cool⟩
    traced := none
    handedTargets := none
    handedAir := none
    handedSlide := none }

/-- R196: the statuses and the verdict under new thresholds and kinds. -/
def Retention.recompute (c : Eight HealthConfig) (r : Retention) : Retention :=
  let ex := Eight.ofFn fun h => exceededOf (c.get h) (r.counts.get h)
  { r with exceeded := ex, verdict := verdictOf c ex }

/-- R30: what the install step sets at once in every block. -/
def installValues (ws : List Window) (p : Params) (s : State) : State :=
  let s := { s with
    path := { s.path with st := .active, windows := some ws }
    params := p
    decoder := { s.decoder with asm := s.decoder.asm.cleared }
    demand := { s.demand with asm := s.demand.asm.cleared }
    speed := { s.speed with cutout := cutoutOf p s.speed.reference }
    retention := s.retention.recompute p.health
    loader := { s.loader with configFault := false, candidate := [], checked := false } }
  s

/-- R33: a reload returns the supervisor to NO_DEMAND, and the blend and slide units to their core-reset values. -/
def reloadValues (s : State) : State :=
  { s with demand := s.demand.toNoDemand, blend := s.blend.coreReset, slide := .initial }

/-- R30, R33: the loader goes on: to SCANNING with the store scan, or to READY with LOADED. -/
def loaderGoesOn (scan : Bool) (s : State) : State :=
  if scan then handScan { s with loader := { s.loader with st := .scanning } }
  else setResult .loaded 0 s.loader.origin { s with loader := { s.loader with st := .ready } }

/-- R57, R79, R114: the recompute and the arming examination of the install step, with a reload's hand-off. -/
def installEvents (reload : Bool) (s : State) : State :=
  if reload then
    let s := { s with status := { s.status with demandHanded := s.demand.st } }
    withTractionChange (linksTakeDemand .state) (blendEvent true (slideRun .exam s))
  else blendEvent true (slideRun .exam s)

/-- R30, R33: the install step; where the line requests stand: log 13, log 18. -/
def install (linesFirst : Bool) (s : State) : State :=
  let bs := beatsBytes s.loader.candidate
  let ws := parseWindows bs
  let p := parseParams bs
  let reload := s.loader.origin == .reload
  let scan := !reload || geometryDiffers s ws p
  let oldLines := s.params.lines
  let oldDemand := s.demand.st
  let s := installLines oldLines (installValues ws p s)
  let s := if reload then traceDState oldDemand .noDemand .reload (reloadValues s) else s
  let s := loaderGoesOn scan s
  if linesFirst then installEvents reload (detectLines true s) else detectLines false (installEvents reload s)

/-- R30, R33: the end of CHECKING for a candidate that passed; a reload's conditions are examined again. -/
def endChecking (linesFirst : Bool) (s : State) : State :=
  match s.loader.origin, s.reloadRefusal with
  | .reload, some reason => failLoad .reloadRefused reason.code s
  | _, _ => install linesFirst s

/-! ### Responses (R23, R25) -/

/-- The LOAD burst on the port, of a kind; a discarded response only frees the port. -/
def onLoad (k : LoadKind) (f : LoadBurst → State → State) (s : State) : State :=
  match s.arb.port with
  | some (.load b) => if b.kind == k then (if b.discard then freePort s else f b (freePort s)) else s
  | _ => s

/-- R23, R24: the anchor read's response. -/
def anchorAnswered (r : Response) (data : List BeatData) (s : State) : State :=
  let bs := beatsBytes data
  match r with
  | .error => failLoad .memoryError 0 s
  | .ok =>
    if anchorGood bs then
      queueLoad (configBursts (anchorConfigAddr bs))
        { s with loader := { s.loader with st := .readingConfig, configAddr := anchorConfigAddr bs } }
    else failLoad .anchorBad 0 s

/-- A burst's 8 beats, zeros where the data has fewer. -/
def eightBeats (data : List BeatData) : List BeatData := (data ++ List.replicate 8 0).take 8

/-- R26: the candidate is whole: it is checked. -/
def checkCandidate (s : State) : State :=
  let s := { s with loader := { s.loader with st := .checking } }
  match configFailure s.loader.anchor (beatsBytes s.loader.candidate) with
  | some (code, detail) => failLoad code detail s
  | none => { s with loader := { s.loader with checked := true } }

/-- R25: a configuration burst's response. -/
def configAnswered (r : Response) (data : List BeatData) (o : TakenFirst) (s : State) : State :=
  match r with
  | .error =>
    failLoad .memoryError 0 (withdrawLoad o { s with loader := { s.loader with queue := [] } })
  | .ok =>
    let c := s.loader.candidate ++ eightBeats data
    let s := { s with loader := { s.loader with candidate := c } }
    if 64 ≤ c.length then checkCandidate s else s

/-- R25: the result word's response; the mark is that of the last result (log 21). -/
def resultAnswered (r : Response) (b : LoadBurst) (s : State) : State :=
  if r == .ok && b.burst == (resultBurst s.loader.anchor s.loader.result).burst then
    { s with loader := { s.loader with reached := true } }
  else s

/-! ### Meanings -/

/-- RELOAD_REQUEST (R24). -/
def execReloadRequest (s : State) : Host.Outcome State Fault Refusal :=
  run (guarded (fun s => 0 < s.loader.requests) takeOneRequest) s

/-- ANCHOR_READ_RESPONSE (R23). -/
def execAnchorReadResponse (r : Response) (data : List BeatData) (s : State) : Host.Outcome State Fault Refusal :=
  run (onLoad .anchor fun _ => anchorAnswered r data) s

/-- CONFIG_BURST_RESPONSE (R25, R26). -/
def execConfigBurstResponse (r : Response) (data : List BeatData) (o : TakenFirst) (s : State) :
    Host.Outcome State Fault Refusal :=
  run (onLoad .config fun _ => configAnswered r data o) s

/-- CONFIG_INSTALL (R30, R33). -/
def execConfigInstall (linesFirst : Bool) (s : State) : Host.Outcome State Fault Refusal :=
  run (guarded (fun s => s.loader.checked && s.path.held.isNone) (endChecking linesFirst)) s

/-- RESULT_WORD_RESPONSE (R25). -/
def execResultWordResponse (r : Response) (s : State) : Host.Outcome State Fault Refusal :=
  run (onLoad .result (resultAnswered r)) s

end Sys2Proof.Machine
end

