-- ==== Sys2Proof/Machine/StoreSteps.lean ====
section
/-! DEFINITION. The responses to STORE bursts: the completion of parts and sequences, the store scan and its repairs,
and store write faults, with the meanings of their commands (R163 to R179). -/

namespace Sys2Proof.Machine

/-! ### The STORE burst on the port -/

/-- A response to the STORE burst on the port, when it is one that g says. A discarded burst's response only frees
the port (R16, R171). -/
def onStore (g : StoreBurst → Bool) (f : StoreBurst → State → State) (s : State) : State :=
  match s.arb.port with
  | some (.store b) => if b.discard then freePort s else if g b then f b (freePort s) else s
  | _ => s

/-- The bytes of read data. -/
def readBytes (data : List BeatData) : List Byte := beatsBytes data

/-! ### Return to IDLE -/

/-- The open incident is made absent, and the recorder enters IDLE. -/
def closeIncident (s : State) : State :=
  { s with recorder := { s.recorder with incident := none, st := .idle } }

/-! ### OPEN and CLOSE sequences (R163, R164, R169) -/

/-- R163: part 1 of the OPEN sequence is complete. -/
def openEntryDone (b : StoreBurst) (s : State) : State :=
  let mark := (b.sets.head?.map fun x => x.2.retained).getD false
  let keep (i : Incident) : Incident := { i with retained := mark }
  reexamine (applySets b { s with recorder := { s.recorder with incident := s.recorder.incident.map keep } })

/-- R164: the capture-window timer starts with the window in force, in s. -/
def enterCapturing (i : Incident) (s : State) : State :=
  { s with recorder := { s.recorder with
    st := .capturing, incident := some { i with window := s.timer (s.params.captureWindow * 1000) } } }

/-- R164: the OPEN sequence has ended; the warning input is looked at as it then stands (log 45). -/
def openEnded (s : State) : State :=
  match s.recorder.incident with
  | none => s
  | some i =>
    if i.truncated || s.inputs.powerFail then enterClosing .truncated s
    else if s.params.postCount == 0 then enterClosing .normal s
    else enterCapturing i s

/-- R169: part 4 of the CLOSE sequence is complete. -/
def closeEntryDone (b : StoreBurst) (s : State) : State :=
  let cls := (s.recorder.incident.map Incident.cls).getD .test
  let s := applySets b s
  reexamine { s with recorder := { s.recorder with classCounts := bumpClass s.recorder.classCounts cls } }

/-- R169: part 5 of the CLOSE sequence is complete. A sequence that waits starts before the pending trigger is disposed of
(log 54). -/
def closeEnded (b : StoreBurst) (s : State) : State :=
  disposePending (endSequence (closeIncident (setFlag .incidentClosed (clearStale b s))))

/-! ### HEADER, ENTRY and ERASE sequences (R173, R179, R178) -/

/-- R173. A mark that stays set asks for no HEADER sequence here (log 47). -/
def headerDone (b : StoreBurst) (s : State) : State := endSequence (clearStale b s)

def Sequence.entryMark : Sequence → Option Bool
  | .entry _ mark => some mark
  | _ => none

/-- R191: the retention directive in hand ends. -/
def endRetention (r : DirResult) (s : State) : State :=
  match s.retention.inHand with
  | none => s
  | some (_, mark) =>
    finish (if mark then .retainIncident else .releaseIncident) r
      { s with retention := { s.retention with inHand := none } }

/-- R179, R191: the ENTRY sequence is done; its report follows the re-examination. -/
def entryDone (b : StoreBurst) (s : State) : State := endSequence (endRetention .done (reexamine (applySets b s)))

/-- R177: the header part of the ERASE sequence is complete. -/
def eraseHeaderDone (s : State) : State := { s with recorder := { s.recorder with nextSlot := 0 } }

/-- R177: an entry burst of the ERASE sequence is complete. -/
def eraseEntriesDone (b : StoreBurst) (s : State) : State := reexamine (applySets b s)

/-- R178: the ERASE sequence has ended. A sequence that waits starts before the pending trigger is disposed of (log 54). -/
def eraseEnded (b : StoreBurst) (s : State) : State :=
  let s := applySets b s
  let s := { s with recorder := { s.recorder with stale := false } }
  let s := finish .eraseStore .done (enterStore s.byEligibility s)
  disposePending (endSequence (closeIncident s))

/-- The last entry burst of an ERASE sequence covers slot N - 1. -/
def eraseFinal (slots : Nat) : Part → Bool
  | .eraseEntries first _ => slots ≤ first + 8
  | _ => false

/-! ### The scan (R174 to R176) -/

def updScan (f : Scan → Scan) (s : State) : State :=
  { s with recorder := { s.recorder with scan := s.recorder.scan.map f } }

/-- R176: the scan ends with a store state, and the loader hears of it (R30). -/
def endScan (x : StoreState) (s : State) : State :=
  let s := endSequence (enterStore x { s with recorder := { s.recorder with scan := none } })
  if s.loader.st == .scanning then
    setResult .loaded 0 s.loader.origin { s with loader := { s.loader with st := .ready } }
  else s

/-- R174: the header as read passes. -/
def headerPasses (slots : Nat) (bs : List Byte) : Bool :=
  field 0 4 bs == 0x53544F31 && checksumHolds (slice 0 64 bs) && field 4 2 bs == slots && field 6 2 bs < slots

/-- R175: the parts with which a scan goes on: the slot header and the footer of the first entry awaiting repair, else
the next eight entries; none after the last entry. -/
def scanParts (slots : Nat) (c : Scan) : List Part :=
  match c.repairs with
  | r :: _ => [.scanSlotHeader r.slot, .scanFooter r.slot]
  | [] => if c.next < slots then [.scanEntries c.next] else []

/-- R175: the scan goes on where what was read decides how: after the header and after a burst of entries (log 11).
After the last entry it awaits SCAN_END. -/
def scanNext (s : State) : State :=
  match s.recorder.scan with
  | none => s
  | some c => askScanParts (scanParts s.params.slots c) s

/-- R174: the directory header has been read. -/
def scanHeaderDone (data : List BeatData) (s : State) : State :=
  let bs := readBytes data
  if headerPasses s.params.slots bs then
    scanNext (updScan (fun c => { c with header := bs })
      { s with recorder := { s.recorder with nextSlot := field 6 2 bs } })
  else endScan .fault s

/-- The retained mark of an entry as read; a byte other than 0 and 1 is a free value (log 17). -/
def retainedOf (free slot : Nat) (b : Byte) : Bool :=
  if b == 0 then false else if b == 1 then true else Config.retainedOfOtherByte free slot b

/-- R175: the image entry of a directory entry as read; OPEN stands for an entry to repair, and an UNREADABLE entry has
number 0, class 0 and a clear mark (log 46). -/
def entryOf (free slot : Nat) (bs : List Byte) : SlotEntry :=
  let number := field 4 4 bs
  let cls := field 2 1 bs
  let mark := retainedOf free slot (bs.getD 1 0)
  if !checksumHolds bs then ⟨.unreadable, 0, 0, false⟩
  else
    match field 0 1 bs with
    | 0 => ⟨.empty, 0, 0, false⟩
    | 1 => ⟨.opened, number, cls, mark⟩
    | 2 => ⟨.closed, number, cls, mark⟩
    | 3 => ⟨.interrupted, number, cls, mark⟩
    | _ => ⟨.unreadable, 0, 0, false⟩

/-- R175: the entries of a burst, with their slots. -/
def entriesRead (free slots first : Nat) (data : List BeatData) : List (Nat × SlotEntry) :=
  ((data.take 8).zipIdx.map fun p => (first + p.2, entryOf free (first + p.2) (beatBytes p.1))).filter fun p => p.1 < slots

/-- R175: entries have been read; those OPEN await repair, their image entry UNKNOWN meanwhile. -/
def scanEntriesDone (first : Nat) (data : List BeatData) (s : State) : State :=
  let es := entriesRead s.free s.params.slots first data
  let seen := es.filter fun p => p.2.state != .opened
  let repairs := (es.filter fun p => p.2.state == .opened).map fun p => Repair.mk p.1 p.2
  let s := { s with
    recorder := { s.recorder with image := setEntries seen s.recorder.image }
    free := s.free + 1 }
  scanNext (updScan (fun c => { c with next := first + 8, repairs := repairs }) s)

/-- The slot header of an OPEN entry's slot has been read; its footer has been asked for with it (R2, R175). -/
def scanSlotHeaderDone (data : List BeatData) (s : State) : State :=
  updScan (fun c => { c with slotBeat := slice 0 8 (readBytes data) }) s

/-- R175: the repair of an OPEN entry, by the slot header and the footer as read. -/
def repairParts (autoRetain : Bool) (c : Scan) (r : Repair) : List Part :=
  if field 0 1 c.slotBeat == 2 && field 4 4 c.slotBeat == r.entry.number then
    let cls := if 1 ≤ c.footerClass && c.footerClass ≤ 4 then c.footerClass else r.entry.cls
    [.repairEntry r.slot ⟨.closed, r.entry.number, cls, r.entry.retained || (cls == 1 && autoRetain)⟩]
  else
    [.repairBeat r.slot r.entry.number, .repairEntry r.slot { r.entry with state := .interrupted }]

/-- The footer's first burst gives its class, the last brings the repair, and with it what the scan goes on with, whose
first burst is presented at the grant of the entry write (R2, R175). -/
def scanFooterDone (last : Bool) (data : List BeatData) (s : State) : State :=
  if last then
    match s.recorder.scan with
    | some c =>
      match c.repairs with
      | r :: rest =>
        askScanParts (repairParts s.params.autoRetain c r ++ scanParts s.params.slots { c with repairs := rest }) s
      | [] => s
    | none => s
  else updScan (fun c => { c with footerClass := field 0 1 (readBytes data) }) s

/-- R175: a repaired entry is written: the image follows, a CLOSED one counts its class (log 32), and the repair is
done. -/
def repairDone (e : SlotEntry) (b : StoreBurst) (s : State) : State :=
  let s := applySets b s
  let s :=
    match e.state, IncidentClass.ofCode e.cls with
    | .closed, some c => { s with recorder := { s.recorder with classCounts := bumpClass s.recorder.classCounts c } }
    | _, _ => s
  updScan (fun c => { c with repairs := c.repairs.drop 1 }) s

/-- R176: the highest incident number in the image. -/
def highestNumber (image : List SlotEntry) : Nat := image.foldl (fun n e => max n e.number) 0

/-- R176: the counts and the last unstored cause of the header as read are those of the record (log 36). -/
def headerAgrees (s : State) (header : List Byte) : Bool :=
  let now := s.currentHeader
  slice 8 15 header == slice 8 15 now && (s.recorder.lastUnstored.isNone || slice 24 24 header == slice 24 24 now)

/-- R176: every entry has been read and repaired, and nothing of the scan waits or runs. -/
def State.scanDue (s : State) : Bool :=
  match s.recorder.scan, s.recorder.running with
  | some c, some r =>
    !c.header.isEmpty && s.params.slots ≤ c.next && c.repairs.isEmpty && r.sequence == .scan && r.parts.isEmpty &&
      r.bursts.isEmpty && s.arb.store.isNone &&
      (match s.arb.port with
        | some (.store b) => b.discard
        | _ => true)
  | _, _ => false

/-- R176: the scan reconciles the counts; a header that differs is written, else the scan ends. -/
def reconcile (s : State) : State :=
  let s := { s with recorder := { s.recorder with
    lifetime := max s.recorder.lifetime (highestNumber s.recorder.image) } }
  match s.recorder.scan with
  | some c => if headerAgrees s c.header then endScan s.byEligibility s else askScanParts [.scanHeaderWrite] s
  | none => s

/-- R176: the scan's header write is answered OK. -/
def scanHeaderWritten (b : StoreBurst) (s : State) : State := endScan s.byEligibility (clearStale b s)

/-- R171, R176: a read or write of the scan is answered ERROR. -/
def scanFails (o : TakenFirst) (s : State) : State :=
  endScan .fault (withdrawStore o { s with recorder := { s.recorder with running := none } })

/-- SCAN_END by what it carries. -/
def scanEndEffect (r : Option Response) (o : TakenFirst) (s : State) : State :=
  match r with
  | none => guarded State.scanDue reconcile s
  | some .ok => onStore (fun b => b.part == .scanHeaderWrite) scanHeaderWritten s
  | some .error => onStore (fun b => b.part.ofScan) (fun _ => scanFails o) s

/-! ### Store write faults (R172) -/

/-- R172, step 3. -/
def unstorePending (s : State) : State :=
  match s.recorder.waiting with
  | some p => unstored p.first { s with recorder := { s.recorder with waiting := none } }
  | none => s

/-- R172, steps 4 and 5: a failed or waiting ENTRY is reported to the retention unit, a failed ERASE to its
directive. -/
def reportFailed (failed : Option Sequence) (waiting : List Sequence) (s : State) : State :=
  let s := if ((failed.toList ++ waiting).any fun q => q.entryMark.isSome) then endRetention .failed s else s
  if (failed.map Sequence.isErase).getD false then finish .eraseStore .failed s else s

/-- R171, R172: a store write fault; STORE_ALERT is set whatever the store state was (R172, step 1). -/
def writeFault (o : TakenFirst) (s : State) : State :=
  let failed := s.recorder.running.map Running.sequence
  let queued := s.recorder.queue
  let s := withdrawStore o { s with recorder := { s.recorder with running := none } }
  let s := setFlag .storeAlert (enterStore .fault s)
  let s := { s with recorder := { s.recorder with incident := none } }
  let s := unstorePending s
  let s := reportFailed failed queued { s with recorder := { s.recorder with queue := [] } }
  { s with recorder := { s.recorder with st := .idle } }

/-! ### Intermediate bursts (R159) -/

/-- The parts whose completion is a step of its own. -/
def ownStep (slots : Nat) (b : StoreBurst) : Bool :=
  match b.part with
  | .partialCrc | .closeEntry | .closeHeader | .headerOnly | .entryWrite _ _ | .scanHeader | .scanEntries _
  | .scanHeaderWrite => true
  | p => eraseFinal slots p

/-- R159: an intermediate burst is answered OK; a part's last burst completes it. -/
def burstDone (data : List BeatData) (b : StoreBurst) (s : State) : State :=
  match b.part with
  | .openEntry => openEntryDone b s
  | .openHeader => clearStale b s
  | .eraseHeader => eraseHeaderDone s
  | .eraseEntries _ _ => eraseEntriesDone b s
  | .scanSlotHeader _ => scanSlotHeaderDone data s
  | .scanFooter _ => scanFooterDone b.last data s
  | .repairEntry _ e => repairDone e b s
  | .slotHeader | .snapshot | .preEntries | .partialCrc | .postEntries | .footer | .closedBeat | .closeEntry
  | .closeHeader | .headerOnly | .entryWrite _ _ | .scanHeader | .scanEntries _ | .repairBeat _ _
  | .scanHeaderWrite => s

/-- The first slot of a scan read of entries. -/
def firstOf : Part → Nat
  | .scanEntries first => first
  | _ => 0

def Part.isScanEntries : Part → Bool
  | .scanEntries _ => true
  | _ => false

def Part.isEntryWrite : Part → Bool
  | .entryWrite _ _ => true
  | _ => false

/-! ### Meanings -/

/-- STORE_BURST_RESPONSE (R159). -/
def execStoreBurstResponse (data : List BeatData) (s : State) : Host.Outcome State Fault Refusal :=
  run (fun s => onStore (fun b => !ownStep s.params.slots b) (burstDone data) s) s

/-- OPEN_SEQUENCE_END (R164). -/
def execOpenSequenceEnd (s : State) : Host.Outcome State Fault Refusal :=
  run (onStore (fun b => b.part == .partialCrc) fun _ s => openEnded (endSequence s)) s

/-- CLOSE_ENTRY_WRITTEN (R169). -/
def execCloseEntryWritten (s : State) : Host.Outcome State Fault Refusal :=
  run (onStore (fun b => b.part == .closeEntry) closeEntryDone) s

/-- CLOSE_SEQUENCE_END (R169). -/
def execCloseSequenceEnd (s : State) : Host.Outcome State Fault Refusal :=
  run (onStore (fun b => b.part == .closeHeader) closeEnded) s

/-- HEADER_SEQUENCE_DONE (R173). -/
def execHeaderSequenceDone (s : State) : Host.Outcome State Fault Refusal :=
  run (onStore (fun b => b.part == .headerOnly) headerDone) s

/-- ENTRY_SEQUENCE_DONE (R179, R191). -/
def execEntrySequenceDone (s : State) : Host.Outcome State Fault Refusal :=
  run (onStore (fun b => b.part.isEntryWrite) entryDone) s

/-- ERASE_SEQUENCE_END (R178). -/
def execEraseSequenceEnd (s : State) : Host.Outcome State Fault Refusal :=
  run (fun s => onStore (fun b => eraseFinal s.params.slots b.part) eraseEnded s) s

/-- SCAN_HEADER_READ (R174). -/
def execScanHeaderRead (data : List BeatData) (s : State) : Host.Outcome State Fault Refusal :=
  run (onStore (fun b => b.part == .scanHeader) fun _ => scanHeaderDone data) s

/-- SCAN_ENTRY_READ (R175). -/
def execScanEntryRead (data : List BeatData) (s : State) : Host.Outcome State Fault Refusal :=
  run (onStore (fun b => b.part.isScanEntries) fun b => scanEntriesDone (firstOf b.part) data) s

/-- SCAN_END (R176). -/
def execScanEnd (r : Option Response) (o : TakenFirst) (s : State) : Host.Outcome State Fault Refusal :=
  run (scanEndEffect r o) s

/-- STORE_WRITE_FAULT (R172). -/
def execStoreWriteFault (o : TakenFirst) (s : State) : Host.Outcome State Fault Refusal :=
  run (onStore (fun b => !b.part.ofScan) fun _ => writeFault o) s

end Sys2Proof.Machine
end

