-- ==== Sys2Proof/Machine/Directives.lean ====
section
/-! DEFINITION. The nineteen directives, each by its owner (chapter 12.6 for their arguments). -/

namespace Sys2Proof.Machine

/-! ### Status unit -/

/-- R199: DONE is published, then the named flags are cleared. -/
def acknowledgeFlags (x : Slot) (s : State) : State :=
  clearFlags (BitVec.ofNat 16 (field 0 2 x.args)) (finish .acknowledgeFlags .done s)

/-- R203. -/
def setIndication (x : Slot) (s : State) : State :=
  if s.params.source == .direct then
    finish .setIndication .done { s with status := { s.status with direct := field 0 1 x.args == 1 } }
  else finish .setIndication .state s

/-! ### Recorder -/

/-- R142. -/
def setTime (x : Slot) (s : State) : State :=
  finish .setTime .done { s with clock := { s.clock with cal := timeArgument x.args, valid := true } }

def lineOf : Nat → Line
  | 1 => .l1
  | 2 => .l2
  | _ => .l3

/-- R151. -/
def armTriggerLine (x : Slot) (s : State) : State :=
  finish .armTriggerLine .done (setLine (lineOf (field 0 1 x.args)) (fun v => { v with armed := true }) s)

/-- R154: the answer to TRIGGER INCIDENT by the disposition. -/
def dispositionAnswer : Disposition → DirResult
  | .opened | .appended | .pending => .done
  | .unstored => .failed

/-- R154, R155. -/
def triggerIncident (x : Slot) (s : State) : State :=
  let c := stamp (.software (field 0 1 x.args)) .operator s
  let s := traceTrigger c s
  finish .triggerIncident (dispositionAnswer s.disposition) (assemble c s)

/-- R177: the recorder's rulings on ERASE STORE. -/
def State.eraseRefusal (s : State) : Option DirResult :=
  if s.recorder.st != .idle || s.recorder.waiting.isSome || s.recorder.running.isSome || !s.recorder.queue.isEmpty then
    some .busy
  else if s.recorder.store == .unchecked || s.recorder.store == .scanning then some .state
  else none

/-- R177. -/
def eraseStore (x : Slot) (s : State) : State :=
  match s.eraseRefusal with
  | some r => finish .eraseStore r s
  | none =>
    inProgress (askSequence (.erase (field 0 1 x.args == 1)) { s with recorder := { s.recorder with st := .erasing } })

/-! ### Retention and key unit -/

/-- R189, R190: the rulings on a retention directive that gives a mark to a slot. -/
def State.retentionRefusal (s : State) (k : Nat) (mark : Bool) : Option DirResult :=
  let e := s.entryAt k
  if s.recorder.st != .idle && s.recorder.st != .capturing then some .busy
  else if s.recorder.store != .ready && s.recorder.store != .full then some .state
  else if (e.state == .closed || e.state == .interrupted) && e.retained != mark then none
  else some .state

/-- R189, R190: a retention directive is taken or refused. -/
def changeRetention (c : DirectiveCode) (mark : Bool) (x : Slot) (s : State) : State :=
  let k := field 0 2 x.args
  match s.retentionRefusal k mark with
  | some r => finish c r s
  | none =>
    inProgress (askSequence (.entry k mark) { s with retention := { s.retention with inHand := some (k, mark) } })

/-- R186: the key named takes the new value. -/
def Retention.setKey (k : KeyName) (v : BitVec 64) (r : Retention) : Retention :=
  match k with
  | .maintenance => { r with maintenance := some v }
  | .authority => { r with authority := some v }

/-- R186. -/
def setKey (x : Slot) (s : State) : State :=
  finish .setKey .done { s with
    retention := s.retention.setKey (x.keyName.getD .maintenance) (BitVec.ofNat 64 (field 0 8 x.args)) }

/-- R187. -/
def setRetentionLevel (x : Slot) (s : State) : State :=
  finish .setRetentionLevel .done { s with retention := { s.retention with strict := field 0 1 x.args == 1 } }

/-- R195. -/
def resetHealth (s : State) : State :=
  finish .resetAttributes .done { s with retention := { s.retention with
    counts := Eight.all 0, exceeded := Eight.all false, verdict := .sound } }

/-- R188. -/
def freeze (s : State) : State :=
  finish .freeze .done { s with retention := { s.retention with frozen := true } }

/-! ### Demand supervisor -/

/-- R53. DONE is published after the hand-off and its recompute (log 41). -/
def resetPenalty (s : State) : State :=
  if s.demand.st == .penalty && s.standing then
    let d : DemandUnit := { s.demand.toNoDemand with penaltyLatch := false }
    finish .resetPenalty .done (handDemand .state (traceDState .penalty .noDemand .resetPenalty { s with demand := d }))
  else finish .resetPenalty .state s

/-- R54: the supervisor after RESET EMERGENCY. -/
def DemandUnit.leaveEmergency (d : DemandUnit) : DemandUnit :=
  let d := { d with emergencyLatch := false }
  if d.penaltyLatch then d.enter .penalty else d.toNoDemand

/-- R54. DONE is published after the hand-off and its recompute (log 41). -/
def resetEmergency (s : State) : State :=
  if s.demand.st == .emergency && s.standing then
    let d := s.demand.leaveEmergency
    finish .resetEmergency .done
      (handDemand .state (traceDState .emergency d.st .resetEmergency { s with demand := d }))
  else finish .resetEmergency .state s

/-! ### Slide unit -/

def truckNamed (n : Nat) : Truck := if n = 1 then .a else .b

/-- R110. DONE is published after the hand-off and its recompute (log 41). -/
def clearSlideFault (x : Slot) (s : State) : State :=
  let t := truckNamed (field 0 1 x.args)
  if s.slide.trucks.get t == .fault then
    finish .clearSlideFault .done (slideEvent { SlideEvent.quiet with clear := some t } s)
  else finish .clearSlideFault .state s

/-! ### Actuator link unit -/

/-- The demand that a release or a test needs: NO_DEMAND, or LIVE with mode RELEASE (R129, R132). -/
def State.effortFree (s : State) : Bool :=
  s.demand.st == .noDemand || (s.demand.st == .live && s.demand.effective.fields.mode == .release)

/-- R132: the independent demands allow the test. -/
def State.testable (s : State) : Bool :=
  let p := s.demand.effective.fields.independent
  s.standing && s.air.st == .active && s.effortFree &&
    (s.demand.st == .noDemand || (p.a ≤ s.params.holdPressure && p.b ≤ s.params.holdPressure))

/-- R132. Where the phase's command finds a full list and its miss takes the air channel to LOST, the test has ended
ABORTED in this event: no IN_PROGRESS follows (log 25). -/
def testAirPath (s : State) : State :=
  if s.testable then
    let s := trace (.test .aApply .started) { s with air := { s.air with source := .test } }
    inProgress (enterPhase .aApply s)
  else finish .testAirPath .state s

/-- R135: the abort is answered by the air channel, for a tag; DONE stands after the result of the test that it ends
and before the triggers of that end (R128). -/
def abortTest (answer : DirResult → State → State) (s : State) : State :=
  if s.air.phase == .none then answer .state s else endTestWith (answer .done) .aborted s

/-- R19, R135: ABORT AIR PATH TEST, dispatched beside the slot or in it. -/
def abortAirPathTest (s : State) : State :=
  match s.decoder.aborts with
  | tag :: rest =>
    abortTest (publish tag DirectiveCode.abortAirPathTest.code)
      { s with decoder := { s.decoder with aborts := rest } }
  | [] => onDirective .abortAirPathTest (fun _ => abortTest (finish .abortAirPathTest)) s

/-- R129: the six effects of a RELEASE TRACTION that is taken. -/
def startRelease (s : State) : State :=
  let t := s.traction
  let s := emit (.frame .traction (releaseRequestFrame t.sendSeq))
    { s with traction := { t with
      list := []
      keepalive := .stopped
      miss := 0
      good := 0
      sendSeq := (t.sendSeq + 1) % 256
      hsSeq := some t.sendSeq
      hsKind := .release
      hsOrigin := .directive
      hsTimer := s.timer s.params.releaseTimeout } }
  blendEvent false (inProgress (enterTraction .releasing s))

/-- R129. -/
def releaseTraction (s : State) : State :=
  if s.standing && s.traction.st == .active && s.effortFree then startRelease s
  else finish .releaseTraction .state s

/-- R130. -/
def resumeTraction (s : State) : State :=
  if s.traction.st == .released then blendEvent false (inProgress (startResume .directive s))
  else finish .resumeTraction .state s

/-! ### Meanings -/

/-- ACKNOWLEDGE_FLAGS (R199). -/
def execAcknowledgeFlags (s : State) : Host.Outcome State Fault Refusal :=
  run (onDirective .acknowledgeFlags acknowledgeFlags) s

/-- SET_INDICATION (R203). -/
def execSetIndication (s : State) : Host.Outcome State Fault Refusal :=
  run (onDirective .setIndication setIndication) s

/-- SET_TIME (R142). -/
def execSetTime (s : State) : Host.Outcome State Fault Refusal := run (onDirective .setTime setTime) s

/-- ARM_TRIGGER_LINE (R151). -/
def execArmTriggerLine (s : State) : Host.Outcome State Fault Refusal :=
  run (onDirective .armTriggerLine armTriggerLine) s

/-- TRIGGER_INCIDENT (R154). -/
def execTriggerIncident (s : State) : Host.Outcome State Fault Refusal :=
  run (onDirective .triggerIncident triggerIncident) s

/-- ERASE_STORE (R177). -/
def execEraseStore (s : State) : Host.Outcome State Fault Refusal :=
  run (onDirective .eraseStore fun x => keyed x (eraseStore x)) s

/-- RETAIN_INCIDENT (R189). -/
def execRetainIncident (s : State) : Host.Outcome State Fault Refusal :=
  run (onDirective .retainIncident (changeRetention .retainIncident true)) s

/-- RELEASE_INCIDENT (R190). -/
def execReleaseIncident (s : State) : Host.Outcome State Fault Refusal :=
  run (onDirective .releaseIncident fun x => keyed x (changeRetention .releaseIncident false x)) s

/-- SET_KEY (R186). -/
def execSetKey (s : State) : Host.Outcome State Fault Refusal :=
  run (onDirective .setKey fun x => keyed x (setKey x)) s

/-- SET_RETENTION_LEVEL (R187). -/
def execSetRetentionLevel (s : State) : Host.Outcome State Fault Refusal :=
  run (onDirective .setRetentionLevel fun x => keyed x (setRetentionLevel x)) s

/-- RESET_ATTRIBUTES (R195). -/
def execResetAttributes (s : State) : Host.Outcome State Fault Refusal :=
  run (onDirective .resetAttributes fun x => keyed x resetHealth) s

/-- FREEZE (R188). -/
def execFreeze (s : State) : Host.Outcome State Fault Refusal := run (onDirective .freeze fun _ => freeze) s

/-- RESET_PENALTY (R53). -/
def execResetPenalty (s : State) : Host.Outcome State Fault Refusal :=
  run (onDirective .resetPenalty fun _ => resetPenalty) s

/-- RESET_EMERGENCY (R54). -/
def execResetEmergency (s : State) : Host.Outcome State Fault Refusal :=
  run (onDirective .resetEmergency fun _ => resetEmergency) s

/-- CLEAR_SLIDE_FAULT (R110). -/
def execClearSlideFault (s : State) : Host.Outcome State Fault Refusal :=
  run (onDirective .clearSlideFault clearSlideFault) s

/-- TEST_AIR_PATH (R132). -/
def execTestAirPath (s : State) : Host.Outcome State Fault Refusal :=
  run (onDirective .testAirPath fun _ => testAirPath) s

/-- ABORT_AIR_PATH_TEST (R135). -/
def execAbortAirPathTest (s : State) : Host.Outcome State Fault Refusal := run abortAirPathTest s

/-- RELEASE_TRACTION (R129). -/
def execReleaseTraction (s : State) : Host.Outcome State Fault Refusal :=
  run (onDirective .releaseTraction fun x => keyed x releaseTraction) s

/-- RESUME_TRACTION (R130). -/
def execResumeTraction (s : State) : Host.Outcome State Fault Refusal :=
  run (onDirective .resumeTraction fun _ => resumeTraction) s

end Sys2Proof.Machine
end

