-- ==== Sys2Proof/Machine/LinkSteps.lean ====
section
/-! DEFINITION. Received frames, and the meanings of the speed unit's and the actuator link unit's steps
(chapters 5 and 7). -/

namespace Sys2Proof.Machine

/-! ### Receivers (R115, R209) -/

def Receivers.get (r : Receivers) : Link → List Byte
  | .traction => r.traction
  | .air => r.air
  | .speed => r.speed

def Receivers.set (r : Receivers) (l : Link) (v : List Byte) : Receivers :=
  match l with
  | .traction => { r with traction := v }
  | .air => { r with air := v }
  | .speed => { r with speed := v }

/-- R121, R126: a good DYN_REPORT, and the recompute of its installation or of a change of state. The grids are
evaluated where the channel is ACTIVE (R60). -/
def dynReportEvent (echo : Nat) (d : DynData) (s : State) : State :=
  let t := takeDynReport echo d s
  if pairUp echo s.traction.list == .newest || t.traction.st != s.traction.st then blendEvent true t else t

/-- R121, R127: a good AIR_REPORT, and the recompute of its installation. -/
def airReportEvent (echo : Nat) (v : Pair Nat) (s : State) : State :=
  let t := takeAirReport echo v s
  if pairUp echo s.air.list == .newest then blendEvent false t else t

/-- R129: a RELEASE_ACK. -/
def releaseAckEvent (echo : Nat) (s : State) : State :=
  if s.traction.st == .releasing && s.traction.hsSeq == some echo then
    let s := enterTraction .released { s with traction := { s.traction with hsTimer := .stopped } }
    blendEvent false (finish .releaseTraction .done s)
  else tractionStray s

/-- A good frame goes to its block (R116). -/
def takeFrame (f : GoodFrame) (s : State) : State :=
  match f with
  | .dynReport echo d => dynReportEvent echo d s
  | .releaseAck echo => releaseAckEvent echo s
  | .airReport echo v => airReportEvent echo v s
  | .speedSample number time speeds => takeSample number time speeds s

/-- R115: a whole frame is judged; a discarded one makes its entry. -/
def takeWhole (l : Link) (frame : List Byte) (s : State) : State :=
  match judgeFrame l frame with
  | some f => takeFrame f s
  | none => trace (.channel l .frameDiscarded) s

/-- R209: one byte arrives on a link. -/
def receiveByte (l : Link) (s : State) (b : Byte) : State :=
  let buf := feedByte (s.rx.get l) b
  if frameWhole buf then takeWhole l buf { s with rx := s.rx.set l [] } else { s with rx := s.rx.set l buf }

/-- R115: bytes arrive on a link, in order; while a reset is asserted none is taken. -/
def receive (l : Link) (bytes : List Byte) (s : State) : State :=
  if s.anyReset then s else bytes.foldl (receiveByte l) s

/-! ### Timers of the links -/

/-- R122, R123: a reply timer's expiry on the traction channel, and the recompute of a loss. -/
def tractionReplyExpired (seq : Nat) (s : State) : State :=
  withTractionChange tractionMissed
    { s with traction := { s.traction with list := dropEntry seq s.traction.list } }

/-- R122, R123: a reply timer's expiry on the air channel. -/
def airReplyExpired (seq : Nat) (s : State) : State :=
  airMissed { s with air := { s.air with list := dropEntry seq s.air.list } }

/-- The entry of a sequence awaits its reply. -/
def listed (seq : Nat) (xs : List Outstanding) : Bool := xs.any fun e => e.sequence == seq

/-- R122: the expiry of the reply timer of an entry. -/
def replyExpired (c : Channel) (seq : Nat) (s : State) : State :=
  match c with
  | .traction => guarded (fun s => listed seq s.traction.list) (tractionReplyExpired seq) s
  | .air => guarded (fun s => listed seq s.air.list) (airReplyExpired seq) s

/-- R119: a keepalive expiry sends the last values again (log 22). -/
def keepaliveExpired (c : Channel) (s : State) : State :=
  match c with
  | .traction => guarded (fun s => s.traction.keepalive.isRunning) (withTractionChange sendTraction) s
  | .air => guarded (fun s => s.air.keepalive.isRunning) sendAir s

/-- R129: the handshake timer expires in RELEASING. -/
def releaseTimedOut (s : State) : State :=
  let s := enterTraction .active { s with traction := { s.traction with hsKind := .none, hsTimer := .stopped } }
  blendEvent true (finish .releaseTraction .failed (sendTraction s))

/-- R130: the handshake timer expires in RESUMING: entry to LOST with the effects of R124, in the order of R128. -/
def resumeTimedOut (s : State) : State :=
  let directive := s.traction.hsOrigin == .directive
  let s := enterTraction .lost { s with traction := { s.traction with hsKind := .none, hsTimer := .stopped } }
  let s := if directive then finish .resumeTraction .failed s else s
  blendEvent false (trigger .tractionLost (countHealth .tractionLosses (setFlag .linkLost s)))

/-- R129, R130: the handshake timer's expiry. -/
def handshakeExpired (s : State) : State :=
  match s.traction.st with
  | .releasing => releaseTimedOut s
  | .resuming => resumeTimedOut s
  | .starting | .active | .lost | .released => s

/-! ### Meanings: speed and slide -/

/-- SPEED_SAMPLE (R81). -/
def execSpeedSample (bytes : List Byte) (s : State) : Host.Outcome State Fault Refusal := run (receive .speed bytes) s

/-- SENSOR_TIMER_EXPIRY (R84, R85). -/
def execSensorTimerExpiry (s : State) : Host.Outcome State Fault Refusal :=
  run (guarded (fun s => s.speed.sensor.isRunning) loseSpeedLink) s

/-- STANDSTILL_DWELL_EXPIRY (R91). -/
def execStandstillDwellExpiry (s : State) : Host.Outcome State Fault Refusal :=
  run (guarded (fun s => s.speed.dwell.isRunning && s.speed.standstill == .dwelling) confirmStandstill) s

/-- RECOVERY_DWELL_EXPIRY (R101). -/
def execRecoveryDwellExpiry (x : Axle) (s : State) : Host.Outcome State Fault Refusal :=
  run (guarded (fun s => (s.slide.recovery.get x).isRunning)
    (slideEvent { SlideEvent.quiet with recovery := some x })) s

/-- HOLD_DWELL_EXPIRY (R106). -/
def execHoldDwellExpiry (t : Truck) (s : State) : Host.Outcome State Fault Refusal :=
  run (guarded (fun s => (s.slide.hold.get t).isRunning)
    (slideEvent { SlideEvent.quiet with hold := some t })) s

/-- REAPPLY_DWELL_EXPIRY (R106). -/
def execReapplyDwellExpiry (t : Truck) (s : State) : Host.Outcome State Fault Refusal :=
  run (guarded (fun s => (s.slide.reapply.get t).isRunning)
    (slideEvent { SlideEvent.quiet with reapply := some t })) s

/-- RELEASE_TIMER_EXPIRY (R107, R108). -/
def execReleaseTimerExpiry (t : Truck) (s : State) : Host.Outcome State Fault Refusal :=
  run (guarded (fun s => (s.slide.release.get t).isRunning)
    (slideEvent { SlideEvent.quiet with release := some t })) s

/-! ### Meanings: links -/

/-- FRAME_DISCARDED (R115). -/
def execFrameDiscarded (l : Link) (bytes : List Byte) (s : State) : Host.Outcome State Fault Refusal :=
  run (receive l bytes) s

/-- DYN_REPORT (R126). -/
def execDynReport (bytes : List Byte) (s : State) : Host.Outcome State Fault Refusal := run (receive .traction bytes) s

/-- AIR_REPORT (R127). -/
def execAirReport (bytes : List Byte) (s : State) : Host.Outcome State Fault Refusal := run (receive .air bytes) s

/-- RELEASE_ACK (R129). -/
def execReleaseAck (bytes : List Byte) (s : State) : Host.Outcome State Fault Refusal := run (receive .traction bytes) s

/-- KEEPALIVE_TIMER_EXPIRY (R119). -/
def execKeepaliveTimerExpiry (c : Channel) (s : State) : Host.Outcome State Fault Refusal :=
  run (keepaliveExpired c) s

/-- REPLY_TIMER_EXPIRY (R122). -/
def execReplyTimerExpiry (c : Channel) (seq : Byte) (s : State) : Host.Outcome State Fault Refusal :=
  run (replyExpired c seq.toNat) s

/-- HANDSHAKE_TIMER_EXPIRY (R129, R130). -/
def execHandshakeTimerExpiry (s : State) : Host.Outcome State Fault Refusal :=
  run (guarded (fun s => s.traction.hsTimer.isRunning) handshakeExpired) s

/-- PHASE_TIMER_EXPIRY (R134). -/
def execPhaseTimerExpiry (s : State) : Host.Outcome State Fault Refusal :=
  run (guarded (fun s => s.air.phaseTimer.isRunning) (endTest .fail)) s

end Sys2Proof.Machine
end

