-- ==== Sys2Proof/Machine/PathUnit.lean ====
section
/-! DEFINITION. The path unit: classification, acceptance, the hand-offs that follow memory's OK, and the meanings of
its commands (chapter 1). -/

namespace Sys2Proof.Machine

/-! ### Transactions (R1) -/

def txnAddr : Transaction → Addr
  | .read a _ => a
  | .write a _ => a

def txnLength : Transaction → Nat
  | .read _ n => n
  | .write _ bs => bs.length

def txnBeats : Transaction → List WriteBeat
  | .read _ _ => []
  | .write _ bs => bs

def txnIsWrite : Transaction → Bool
  | .read _ _ => false
  | .write _ _ => true

/-- R1: the addresses of a transaction's beats, modulo 2^32. -/
def beatAddrs (t : Transaction) : List Addr :=
  (List.range (txnLength t)).map fun k => txnAddr t + BitVec.ofNat 32 (8 * k)

/-! ### Classification (R5) -/

/-- R5: a beat lies inside a window. -/
def Window.holds (w : Window) (a : Addr) : Bool :=
  w.kind != .unused && w.base ≤ a.toNat && a.toNat + 8 ≤ w.base + w.size

/-- The index of the window that a beat lies in. -/
def windowAt (ws : List Window) (a : Addr) : Option Nat :=
  let i := ws.findIdx (fun w => w.holds a)
  if i < ws.length then some i else none

/-- R5: a beat lies in the anchor block. -/
def inAnchor (anchor a : Addr) : Bool := anchor.toNat ≤ a.toNat && a.toNat < anchor.toNat + 256

/-- R5: the class of a transaction all inside window i. -/
def classInside (ws : List Window) (i : Nat) (a : Addr) : TxClass :=
  match ws[i]? with
  | some w =>
    let off := a.toNat - w.base
    match w.kind with
    | .demand => .demand off
    | .directive => .directive off
    | .served => .served off
    | .guarded => .guarded
    | .watch => .watch i off
    | .unused => .outside
  | none => .outside

/-- R5: the class of a transaction in ACTIVE. -/
def classify (anchor : Addr) (ws : List Window) (t : Transaction) : TxClass :=
  let beats := beatAddrs t
  let found := beats.map (windowAt ws)
  match found.headD none with
  | some i => if found.all (fun j => j == some i) then classInside ws i (txnAddr t) else .straddle
  | none =>
    if found.any Option.isSome then .straddle
    else if beats.any (inAnchor anchor) then .anchor
    else .outside

/-- R4, R5: the class given at acceptance. -/
def State.classOf (s : State) (t : Transaction) : TxClass :=
  match s.path.st, s.path.windows with
  | .active, some ws => if s.inputs.coreReset then .transparent else classify s.loader.anchor ws t
  | _, _ => .transparent

/-! ### The reload word (R6) -/

/-- R6: a beat at the reload word's address, its 4 enables set and the value 4C. -/
def reloadBeat (anchor a : Addr) (b : WriteBeat) : Bool :=
  a == anchor + 24 && (b.enables &&& 0x0F) == 0x0F && b.data.toNat % 2 ^ 32 == 0x4C

/-- R6: a write of a reload request. -/
def reloadWrite (anchor : Addr) (t : Transaction) : Bool :=
  ((beatAddrs t).zip (txnBeats t)).any fun p => reloadBeat anchor p.1 p.2

/-- R4, R6: anchor watching runs while the core reset line is released, in TRANSPARENT and, for ANCHOR, in ACTIVE. -/
def State.watchedReload (s : State) (cls : TxClass) (t : Transaction) : Bool :=
  !s.inputs.coreReset && (cls == .transparent || cls == .anchor) && reloadWrite s.loader.anchor t

/-! ### Acceptance -/

/-- R4, R7 to R11: whether a class passes a transaction to memory. -/
def TxClass.passes (isWrite : Bool) : TxClass → Bool
  | .transparent | .demand _ | .directive _ | .watch _ _ | .anchor | .outside => true
  | .guarded => !isWrite
  | .served _ | .straddle => false

/-- R10: a served read takes its snapshot at acceptance. -/
def State.snapshotFor (s : State) (isWrite : Bool) : TxClass → Option (List Byte)
  | .served _ => if isWrite then none else some s.image
  | _ => none

/-- R1, R30: the port accepts a transaction: it holds none, and no install step is due. -/
def State.accepts (s : State) (t : Transaction) : Bool :=
  !s.inputs.powerOnReset && t.wellFormed && s.path.held.isNone && !s.loader.checked

/-- R5: a transaction is accepted and classified; one that passes presents a PASS claim. -/
def accept (t : Transaction) (s : State) : State :=
  let cls := s.classOf t
  let held : Held := ⟨t, cls, s.watchedReload cls t, s.snapshotFor (txnIsWrite t) cls⟩
  let s := { s with path := { s.path with held := some held } }
  if cls.passes (txnIsWrite t) then { s with arb := { s.arb with pass := some t } } else s

/-! ### Responses and hand-offs -/

/-- R1: the response is returned, and the port is free. -/
def respond (r : Response) (data : List BeatData) (s : State) : State :=
  emit (.response r data) { s with path := { s.path with held := none } }

/-- R12: a path violation is reported. -/
def violation (v : Violation) (a : Addr) (s : State) : State :=
  trigger (.pathViolation v) (setFlag .pathViolation (trace (.path v a) s))

/-- Beats handed in address order, from a beat index (R7). -/
def handBeats (f : Nat → WriteBeat → State → State) : Nat → List WriteBeat → State → State
  | _, [], s => s
  | i, b :: bs, s => handBeats f (i + 1) bs (f i b s)

/-- R8, R146: a watch sample. -/
def watchSample (i off : Nat) (t : Transaction) (s : State) : State :=
  match txnBeats t with
  | b :: _ => if s.params.watchTracing then trace (.watch i off (maskedBeat b)) s else s
  | [] => s

/-- R6: a reload request seen in a write is handed to the loader. -/
def handReload (h : Held) (s : State) : State :=
  if h.reload then { s with loader := { s.loader with requests := s.loader.requests + 1 } } else s

/-- R7, R8: the beats of a write go to the unit behind its window. -/
def handToWindow (h : Held) (s : State) : State :=
  match h.cls with
  | .demand off => handBeats takeDemandBeat (off / 8) (txnBeats h.txn) s
  | .directive off => handBeats takeDirectiveBeat (off / 8) (txnBeats h.txn) s
  | .watch i off => watchSample i off h.txn s
  | _ => s

/-- R6 to R8: what follows memory's OK to a passed write. -/
def handOff (h : Held) (s : State) : State := handToWindow h (handReload h s)

/-- R4, R7: on OK a written transaction is handed off, unless the core reset line is asserted. -/
def handOn (r : Response) (h : Held) (s : State) : State :=
  if r == .ok && txnIsWrite h.txn && !s.inputs.coreReset then handOff h s else s

/-- R7: the response to a PASS burst goes to the processor, with the hand-offs that follow. -/
def passAnswered (r : Response) (data : List BeatData) (s : State) : State :=
  match s.arb.port, s.path.held with
  | some (.pass _), some h => handOn r h (respond r (if txnIsWrite h.txn then [] else data) (freePort s))
  | _, _ => s

/-- The held transaction, when it is one that g says. -/
def onHeld (g : Held → Bool) (f : Held → State → State) (s : State) : State :=
  match s.path.held with
  | some h => if g h then f h s else s
  | none => s

def TxClass.isServed : TxClass → Bool
  | .served _ => true
  | _ => false

def servedOffset : TxClass → Nat
  | .served off => off
  | _ => 0

/-! ### Meanings -/

/-- PROCESSOR_TRANSACTION (R5). -/
def execProcessorTransaction (t : Transaction) (s : State) : Host.Outcome State Fault Refusal :=
  run (guarded (fun s => s.accepts t) (accept t)) s

/-- SERVED_READ (R10). -/
def execServedRead (s : State) : Host.Outcome State Fault Refusal :=
  run (onHeld (fun h => h.cls.isServed && !txnIsWrite h.txn) fun h =>
    respond .ok (servedBeats (h.snapshot.getD []) (servedOffset h.cls) (txnLength h.txn))) s

/-- GUARD_WRITE (R9, R12). -/
def execGuardWrite (s : State) : Host.Outcome State Fault Refusal :=
  run (onHeld (fun h => h.cls == .guarded && txnIsWrite h.txn) fun h s =>
    respond .error [] (violation .guardWrite (txnAddr h.txn) s)) s

/-- SERVED_WRITE (R10, R12). -/
def execServedWrite (s : State) : Host.Outcome State Fault Refusal :=
  run (onHeld (fun h => h.cls.isServed && txnIsWrite h.txn) fun h s =>
    respond .error [] (violation .servedWrite (txnAddr h.txn) s)) s

/-- STRADDLE (R11, R12): a read returns zeros. -/
def execStraddle (s : State) : Host.Outcome State Fault Refusal :=
  run (onHeld (fun h => h.cls == .straddle) fun h s =>
    respond .error (if txnIsWrite h.txn then [] else List.replicate (txnLength h.txn) 0)
      (violation .straddle (txnAddr h.txn) s)) s

/-- PASS_RESPONSE (R7). -/
def execPassResponse (r : Response) (data : List BeatData) (s : State) : Host.Outcome State Fault Refusal :=
  run (passAnswered r data) s

end Sys2Proof.Machine
end

