-- ==== Sys2Proof/Machine/Resets.lean ====
section
/-! DEFINITION. The two resets: what their assertion makes of each block, what the release begins, and the meanings
of the four commands (R16, R21, R22, R55, R56, R77, R78, R93, R113, R137, R156, R180, R182, R200). -/

namespace Sys2Proof.Machine

/-! ### Power-on reset -/

/-- R182: what a power-on reset makes of the retention unit: the lock, the count and the frozen state cleared, the
verdict from the statuses kept and the default kinds. -/
def Retention.powerOn (r : Retention) : Retention :=
  { r with
    failed := 0
    lock := false
    frozen := false
    inHand := none
    verdict := verdictOf defaultParams.health r.exceeded }

/-- R180, R156: the recorder keeps its non-volatile counts; N slots UNKNOWN. -/
def Recorder.reset (slots : Nat) (r : Recorder) : Recorder :=
  { State.reset.recorder with
    image := List.replicate slots .unread
    lifetime := r.lifetime
    classCounts := r.classCounts
    unstored := r.unstored
    lastUnstored := r.lastUnstored }

/-- A line disarmed, its detector and timer at rest, its input as it stands (R156). -/
def LineState.powerOn (v : LineState) : LineState := ⟨v.input, .clear, false, .stopped⟩

/-- The assertion of the power-on reset: the initial state, but for what is non-volatile, the calendar clock and the
inputs (00_scope "Resets"). A held transaction is dropped with no response and no report, also one that has no burst and
no claim: R1 against R16 (log 51). -/
def powerOnState (s : State) : State :=
  { State.reset with
    inputs := { s.inputs with powerOnReset := true }
    clock := ⟨0, s.clock.cal, s.clock.valid⟩
    lines := ⟨s.lines.l1.powerOn, s.lines.l2.powerOn, s.lines.l3.powerOn⟩
    loader := { State.reset.loader with anchor := s.loader.anchor }
    recorder := s.recorder.reset defaultParams.slots
    retention := s.retention.powerOn
    free := s.free
    emitted := s.emitted
    pending := s.pending }

/-! ### Core reset -/

/-- R16: STORE and LOAD claims are withdrawn, their granted bursts' responses discarded, the counts cleared. -/
def resetArbiter (s : State) : State :=
  let s := discardLoad (discardStore s)
  { s with arb := { s.arb with store := none, load := none, storeWait := 0, passWait := 0 } }

/-- R21: the slot is emptied, its directive kept as abandoned. An abort dispatched beside it and not yet answered is
dropped with no result (log 31). -/
def Decoder.coreReset (d : Decoder) : Decoder :=
  { d with
    asm := d.asm.cleared
    slot := none
    aborts := []
    abandoned := d.slot.map fun x => (x.tag, x.code) }

/-- R24: IDLE; the load in progress is abandoned. The result, CONFIG_FAULT and the anchor address are kept. -/
def Loader.coreReset (l : Loader) : Loader :=
  { l with st := .idle, candidate := [], checked := false, queue := [], requests := 0, reached := false }

/-- R56: the state that the latches give. -/
def DemandUnit.latchedState (d : DemandUnit) : DemandState :=
  if d.emergencyLatch then .emergency else if d.penaltyLatch then .penalty else .noDemand

/-- R56. -/
def DemandUnit.coreReset (d : DemandUnit) : DemandUnit :=
  let d : DemandUnit := { d with
    asm := d.asm.cleared
    inbox := []
    last := none
    failCount := 0
    freshness := .stopped
    grace := .stopped
    held := none }
  d.enter d.latchedState

/-- R137: the air channel keeps the outcome of the last test. -/
def AirChannel.coreReset (a : AirChannel) : AirChannel := { State.reset.air with lastTest := a.lastTest }

/-- The assertion of the core reset line, in every block. -/
def coreState (s : State) : State :=
  let s := resetArbiter s
  { s with
    inputs := { s.inputs with coreReset := true }
    path := { s.path with st := .transparent, windows := none }
    decoder := s.decoder.coreReset
    loader := s.loader.coreReset
    demand := s.demand.coreReset
    blend := s.blend.coreReset
    speed := .initial
    slide := .initial
    traction := State.reset.traction
    air := s.air.coreReset
    rx := State.reset.rx
    lines := stopLines s.lines
    recorder := s.recorder.reset s.params.slots
    retention := { s.retention with inHand := none }
    status := { s.status with flags := 0, direct := false } }

/-! ### Release -/

/-- R22: the strap lines are sampled, and the first load begins. -/
def sampleStraps (strap2 strap1 : Bool) (s : State) : State :=
  beginLoad .start { s with loader := { s.loader with anchor := Config.anchorAddress strap2 strap1 } }

/-- R21: ABANDONED is published at a core-reset release. -/
def publishAbandoned (s : State) : State :=
  match s.decoder.abandoned with
  | some (tag, c) =>
    publish tag c.code .abandoned { s with decoder := { s.decoder with abandoned := none } }
  | none => s

/-- R84, R156: the timers that a release starts. -/
def startTimers (s : State) : State :=
  startLines { s with speed := { s.speed with sensor := s.timer s.params.sensorTimeout } }

/-- R200: CLOCK_INVALID is set at a release with the valid mark clear. -/
def flagClock (s : State) : State := if s.clock.valid then s else setFlag .clockInvalid s

/-- The lines are detected at this place of the release; `ahead` of its recompute (R59, R78). -/
def linesAt (ahead here : Bool) (s : State) : State := if here then detectLines ahead s else s

/-- The release of the reset, or of the later of the two (R22): flags, timers, ABANDONED, the supervisor's hand-off with
the blend unit's first recompute, and the first load. Where the lines' requests stand: log 13. -/
def leaveReset (strap2 strap1 : Bool) (place : LinePlace) (s : State) : State :=
  let s := startTimers (flagClock s)
  let s := publishAbandoned (linesAt true (place == .first) s)
  let s := handDemand .state (linesAt true (place == .second) s)
  sampleStraps strap2 strap1 (linesAt false (place == .last) s)

/-- R141: the clock-backup-good input is sampled at the release of the power-on reset. -/
def sampleBackup (good : Bool) (s : State) : State :=
  if good then s else { s with clock := { s.clock with cal := .first, valid := false } }

/-- The release of the power-on reset. -/
def releasePowerOn (strap2 strap1 good : Bool) (s : State) : State :=
  let s := sampleBackup good { s with inputs := { s.inputs with powerOnReset := false } }
  if s.inputs.coreReset then s else leaveReset strap2 strap1 .last s

/-- The assertion of the core reset line; under a power-on reset that reset's effects stand (R22). -/
def assertCore (s : State) : State :=
  if s.inputs.powerOnReset then { s with inputs := { s.inputs with coreReset := true } } else coreState s

/-- The release of the core reset line. -/
def releaseCore (strap2 strap1 : Bool) (place : LinePlace) (s : State) : State :=
  let s := { s with inputs := { s.inputs with coreReset := false } }
  if s.inputs.powerOnReset then s else leaveReset strap2 strap1 place s

/-! ### Meanings -/

/-- POWER_ON_RESET (R22). -/
def execPowerOnReset (s : State) : Host.Outcome State Fault Refusal :=
  run (guarded (fun s => !s.inputs.powerOnReset) powerOnState) s

/-- POWER_ON_RESET_RELEASE (R22, R141). -/
def execPowerOnResetRelease (strap2 strap1 good : Bool) (s : State) : Host.Outcome State Fault Refusal :=
  run (guarded (fun s => s.inputs.powerOnReset) (releasePowerOn strap2 strap1 good)) s

/-- CORE_RESET (R16, R22). -/
def execCoreReset (s : State) : Host.Outcome State Fault Refusal :=
  run (guarded (fun s => !s.inputs.coreReset) assertCore) s

/-- CORE_RESET_RELEASE (R22). -/
def execCoreResetRelease (strap2 strap1 : Bool) (place : LinePlace) (s : State) : Host.Outcome State Fault Refusal :=
  run (guarded (fun s => s.inputs.coreReset) (releaseCore strap2 strap1 place)) s

end Sys2Proof.Machine
end

