-- ==== Sys2Proof/Machine/TimeSteps.lean ====
section
/-! DEFINITION. The clocks, and the meanings of the recorder's steps by time, lines and the power-fail input
(R139, R140, R147 to R149, R166, R170). -/

namespace Sys2Proof.Machine

/-! ### The clocks -/

/-- R140: the carry out of a day. -/
def Calendar.nextDay (c : Calendar) : Calendar :=
  let c := { c with hour := 0, minute := 0, second := 0, ms := 0 }
  if c.day < monthLength c.year c.month then { c with day := c.day + 1 }
  else if c.month < 12 then { c with day := 1, month := c.month + 1 }
  else { c with day := 1, month := 1, year := c.year + 1 }

/-- R140: one millisecond on, short of the carry out of 2099. Second 60 carries like second 59. -/
def Calendar.next (c : Calendar) : Calendar :=
  if c.ms < 999 then { c with ms := c.ms + 1 }
  else if c.second < 59 then { c with ms := 0, second := c.second + 1 }
  else if c.minute < 59 then { c with ms := 0, second := 0, minute := c.minute + 1 }
  else if c.hour < 23 then { c with ms := 0, second := 0, minute := 0, hour := c.hour + 1 }
  else c.nextDay

/-- R140: the next millisecond carries out of 2099. -/
def Calendar.wraps (c : Calendar) : Bool := 2099 < c.next.year

/-- R140: the carry out of 2099. -/
def wrapCalendar (s : State) : State :=
  setFlag .clockInvalid { s with clock := { s.clock with cal := .first, valid := false } }

/-- R140: the calendar clock goes on by one millisecond, through both resets. -/
def tickCalendar (s : State) : State :=
  if s.clock.cal.wraps then wrapCalendar s
  else { s with clock := { s.clock with cal := s.clock.cal.next } }

/-- R139: the operating time, held at 0 while the power-on reset is asserted. -/
def tickOperating (s : State) : State :=
  if s.inputs.powerOnReset then s else { s with clock := { s.clock with op := (s.clock.op + 1) % 2 ^ 32 } }

/-- R139, R140. -/
def tick (s : State) : State := tickCalendar (tickOperating s)

/-! ### The power-fail warning (R170) -/

def warnPowerFail (s : State) : State :=
  match s.recorder.st with
  | .opening =>
    { s with recorder := { s.recorder with
      incident := s.recorder.incident.map fun i => { i with truncated := true } } }
  | .capturing => enterClosing .truncated s
  | .idle | .closing | .erasing => s

/-- R170: the input goes active. -/
def startWarning (s : State) : State := warnPowerFail { s with inputs := { s.inputs with powerFail := true } }

/-- R170: the input goes inactive. -/
def endWarning (s : State) : State := { s with inputs := { s.inputs with powerFail := false } }

/-! ### Trigger lines -/

/-- R147, R148: a line's input goes to a level. -/
def changeLine (l : Line) (high : Bool) (s : State) : State :=
  let s := setLine l (fun v => { v with input := high }) s
  if s.anyReset then s
  else if (s.params.lines.get l).debounce == .none then followLevel false l s
  else s

/-- R166: the capture window runs, in CAPTURING. -/
def State.windowRuns (s : State) : Bool :=
  s.recorder.st == .capturing && (s.recorder.incident.map fun i => i.window.isRunning).getD false

/-! ### Meanings -/

/-- TRIGGER_LINE_CHANGE (R148). -/
def execTriggerLineChange (l : Line) (high : Bool) (s : State) : Host.Outcome State Fault Refusal :=
  run (changeLine l high) s

/-- DEBOUNCE_TIMER_EXPIRY (R149). -/
def execDebounceTimerExpiry (l : Line) (s : State) : Host.Outcome State Fault Refusal :=
  run (guarded (fun s => (s.lines.get l).debounce.isRunning) (debounceExpired l)) s

/-- CAPTURE_WINDOW_EXPIRY (R166). -/
def execCaptureWindowExpiry (s : State) : Host.Outcome State Fault Refusal :=
  run (guarded (fun s => s.windowRuns) (enterClosing .normal)) s

/-- CALENDAR_WRAP (R140). -/
def execCalendarWrap (s : State) : Host.Outcome State Fault Refusal :=
  run (guarded (fun s => s.clock.cal.wraps) wrapCalendar) s

/-- POWER_FAIL_WARNING (R170). -/
def execPowerFailWarning (s : State) : Host.Outcome State Fault Refusal :=
  run (guarded (fun s => !s.inputs.powerFail) startWarning) s

/-- POWER_FAIL_WARNING_END (R170). -/
def execPowerFailWarningEnd (s : State) : Host.Outcome State Fault Refusal :=
  run endWarning s

/-- MILLISECOND_TICK (R139, R140). -/
def execMillisecondTick (s : State) : Host.Outcome State Fault Refusal :=
  run tick s

end Sys2Proof.Machine
end

