-- ==== Sys2Proof/Machine/Dispatch.lean ====
section
/-! DEFINITION. The meaning of every command: one arm per constructor of Instr. -/

namespace Sys2Proof.Machine

def exec (i : Instr) (s : State) : Host.Outcome State Fault Refusal :=
  match i with
  | .processorTransaction t => Sys2Proof.Machine.execProcessorTransaction t s
  | .servedRead => Sys2Proof.Machine.execServedRead s
  | .guardWrite => Sys2Proof.Machine.execGuardWrite s
  | .servedWrite => Sys2Proof.Machine.execServedWrite s
  | .straddle => Sys2Proof.Machine.execStraddle s
  | .passResponse r data => Sys2Proof.Machine.execPassResponse r data s
  | .reloadRequest => Sys2Proof.Machine.execReloadRequest s
  | .anchorReadResponse r data => Sys2Proof.Machine.execAnchorReadResponse r data s
  | .configBurstResponse r data o => Sys2Proof.Machine.execConfigBurstResponse r data o s
  | .configInstall linesFirst => Sys2Proof.Machine.execConfigInstall linesFirst s
  | .resultWordResponse r => Sys2Proof.Machine.execResultWordResponse r s
  | .storeBurstResponse data => Sys2Proof.Machine.execStoreBurstResponse data s
  | .openSequenceEnd => Sys2Proof.Machine.execOpenSequenceEnd s
  | .closeEntryWritten => Sys2Proof.Machine.execCloseEntryWritten s
  | .closeSequenceEnd => Sys2Proof.Machine.execCloseSequenceEnd s
  | .headerSequenceDone => Sys2Proof.Machine.execHeaderSequenceDone s
  | .entrySequenceDone => Sys2Proof.Machine.execEntrySequenceDone s
  | .eraseSequenceEnd => Sys2Proof.Machine.execEraseSequenceEnd s
  | .scanHeaderRead data => Sys2Proof.Machine.execScanHeaderRead data s
  | .scanEntryRead data => Sys2Proof.Machine.execScanEntryRead data s
  | .scanEnd r o => Sys2Proof.Machine.execScanEnd r o s
  | .storeWriteFault o => Sys2Proof.Machine.execStoreWriteFault o s
  | .demandRecord => Sys2Proof.Machine.execDemandRecord s
  | .freshnessTimerExpiry => Sys2Proof.Machine.execFreshnessTimerExpiry s
  | .graceTimerExpiry => Sys2Proof.Machine.execGraceTimerExpiry s
  | .speedSample bytes => Sys2Proof.Machine.execSpeedSample bytes s
  | .sensorTimerExpiry => Sys2Proof.Machine.execSensorTimerExpiry s
  | .standstillDwellExpiry => Sys2Proof.Machine.execStandstillDwellExpiry s
  | .recoveryDwellExpiry axle => Sys2Proof.Machine.execRecoveryDwellExpiry axle s
  | .holdDwellExpiry truck => Sys2Proof.Machine.execHoldDwellExpiry truck s
  | .reapplyDwellExpiry truck => Sys2Proof.Machine.execReapplyDwellExpiry truck s
  | .releaseTimerExpiry truck => Sys2Proof.Machine.execReleaseTimerExpiry truck s
  | .frameDiscarded link bytes => Sys2Proof.Machine.execFrameDiscarded link bytes s
  | .dynReport bytes => Sys2Proof.Machine.execDynReport bytes s
  | .airReport bytes => Sys2Proof.Machine.execAirReport bytes s
  | .releaseAck bytes => Sys2Proof.Machine.execReleaseAck bytes s
  | .keepaliveTimerExpiry channel => Sys2Proof.Machine.execKeepaliveTimerExpiry channel s
  | .replyTimerExpiry channel sequence => Sys2Proof.Machine.execReplyTimerExpiry channel sequence s
  | .handshakeTimerExpiry => Sys2Proof.Machine.execHandshakeTimerExpiry s
  | .phaseTimerExpiry => Sys2Proof.Machine.execPhaseTimerExpiry s
  | .triggerLineChange line high => Sys2Proof.Machine.execTriggerLineChange line high s
  | .debounceTimerExpiry line => Sys2Proof.Machine.execDebounceTimerExpiry line s
  | .captureWindowExpiry => Sys2Proof.Machine.execCaptureWindowExpiry s
  | .calendarWrap => Sys2Proof.Machine.execCalendarWrap s
  | .powerFailWarning => Sys2Proof.Machine.execPowerFailWarning s
  | .powerFailWarningEnd => Sys2Proof.Machine.execPowerFailWarningEnd s
  | .powerOnReset => Sys2Proof.Machine.execPowerOnReset s
  | .powerOnResetRelease strap2 strap1 backupGood => Sys2Proof.Machine.execPowerOnResetRelease strap2 strap1 backupGood s
  | .coreReset => Sys2Proof.Machine.execCoreReset s
  | .coreResetRelease strap2 strap1 lines => Sys2Proof.Machine.execCoreResetRelease strap2 strap1 lines s
  | .acknowledgeFlags => Sys2Proof.Machine.execAcknowledgeFlags s
  | .setIndication => Sys2Proof.Machine.execSetIndication s
  | .setTime => Sys2Proof.Machine.execSetTime s
  | .armTriggerLine => Sys2Proof.Machine.execArmTriggerLine s
  | .triggerIncident => Sys2Proof.Machine.execTriggerIncident s
  | .eraseStore => Sys2Proof.Machine.execEraseStore s
  | .retainIncident => Sys2Proof.Machine.execRetainIncident s
  | .releaseIncident => Sys2Proof.Machine.execReleaseIncident s
  | .setKey => Sys2Proof.Machine.execSetKey s
  | .setRetentionLevel => Sys2Proof.Machine.execSetRetentionLevel s
  | .resetAttributes => Sys2Proof.Machine.execResetAttributes s
  | .freeze => Sys2Proof.Machine.execFreeze s
  | .resetPenalty => Sys2Proof.Machine.execResetPenalty s
  | .resetEmergency => Sys2Proof.Machine.execResetEmergency s
  | .clearSlideFault => Sys2Proof.Machine.execClearSlideFault s
  | .testAirPath => Sys2Proof.Machine.execTestAirPath s
  | .abortAirPathTest => Sys2Proof.Machine.execAbortAirPathTest s
  | .releaseTraction => Sys2Proof.Machine.execReleaseTraction s
  | .resumeTraction => Sys2Proof.Machine.execResumeTraction s
  | .millisecondTick => Sys2Proof.Machine.execMillisecondTick s

end Sys2Proof.Machine
end

