-- ==== Sys2Proof/Safety.lean ====
section
/-! DEFINITION. What the statements speak with: the pieces of State and a frame over them, the words for what is asked
for, disposed of and laid out in bytes, and the invariants that every command keeps. -/

namespace Sys2Proof.Machine

/-! ### Frames -/

/-- The pieces of State that a frame names one by one. -/
inductive Piece where
  | inputs | params | path
  /-- The memory-side port, the waiting claims and the wait counts. -/
  | arbiter
  /-- The directive decoder's assembly buffer. -/
  | assembly
  /-- The directive slot, the aborts beside it and the directive kept through a core reset. -/
  | slot
  | lastResult
  /-- The loader but its bursts that wait. -/
  | loader
  | loadQueue
  | demand | blend | speed | slide | traction | air | receivers | clock | lines | ring
  /-- The recorder state, the open incident and the pending trigger. -/
  | incidents
  /-- The running write sequence and those that wait. -/
  | sequences
  /-- The store state, the directory image, the next-slot index, the scan and the header stale mark. -/
  | directory
  /-- The recorder's non-volatile counts and last unstored cause. -/
  | recorderCounts
  /-- The keys, the retention level, the failed-attempt count, the lock, the frozen state and the directive in hand. -/
  | keys
  /-- The health counts, their statuses and the verdict. -/
  | health
  | flags | directLevel | demandHanded | free | emitted | pending
deriving DecidableEq, Repr

/-- A piece has one value in two states. -/
def Piece.same (p : Piece) (s t : State) : Prop :=
  match p with
  | .inputs => t.inputs = s.inputs
  | .params => t.params = s.params
  | .path => t.path = s.path
  | .arbiter => t.arb = s.arb
  | .assembly => t.decoder.asm = s.decoder.asm
  | .slot => t.decoder.slot = s.decoder.slot ∧ t.decoder.aborts = s.decoder.aborts ∧
      t.decoder.abandoned = s.decoder.abandoned
  | .lastResult => t.decoder.last = s.decoder.last
  | .loader => { t.loader with queue := [] } = { s.loader with queue := [] }
  | .loadQueue => t.loader.queue = s.loader.queue
  | .demand => t.demand = s.demand
  | .blend => t.blend = s.blend
  | .speed => t.speed = s.speed
  | .slide => t.slide = s.slide
  | .traction => t.traction = s.traction
  | .air => t.air = s.air
  | .receivers => t.rx = s.rx
  | .clock => t.clock = s.clock
  | .lines => t.lines = s.lines
  | .ring => t.recorder.ring = s.recorder.ring
  | .incidents => t.recorder.st = s.recorder.st ∧ t.recorder.incident = s.recorder.incident ∧
      t.recorder.waiting = s.recorder.waiting
  | .sequences => t.recorder.running = s.recorder.running ∧ t.recorder.queue = s.recorder.queue
  | .directory => t.recorder.store = s.recorder.store ∧ t.recorder.image = s.recorder.image ∧
      t.recorder.nextSlot = s.recorder.nextSlot ∧ t.recorder.scan = s.recorder.scan ∧
      t.recorder.stale = s.recorder.stale
  | .recorderCounts => t.recorder.lifetime = s.recorder.lifetime ∧ t.recorder.classCounts = s.recorder.classCounts ∧
      t.recorder.unstored = s.recorder.unstored ∧ t.recorder.lastUnstored = s.recorder.lastUnstored
  | .keys => t.retention.maintenance = s.retention.maintenance ∧ t.retention.authority = s.retention.authority ∧
      t.retention.strict = s.retention.strict ∧ t.retention.failed = s.retention.failed ∧
      t.retention.lock = s.retention.lock ∧ t.retention.frozen = s.retention.frozen ∧
      t.retention.inHand = s.retention.inHand
  | .health => t.retention.counts = s.retention.counts ∧ t.retention.exceeded = s.retention.exceeded ∧
      t.retention.verdict = s.retention.verdict
  | .flags => t.status.flags = s.status.flags
  | .directLevel => t.status.direct = s.status.direct
  | .demandHanded => t.status.demandHanded = s.status.demandHanded
  | .free => t.free = s.free
  | .emitted => t.emitted = s.emitted
  | .pending => t.pending = s.pending

/-- Every piece but those named has one value in two states. -/
structure Frame (changed : List Piece) (s t : State) : Prop where
  same : ∀ p, p ∉ changed → p.same s t

/-- What granting the memory-side port may move (R14): the port and the claims, what is put out, and the recorder's
and the loader's next burst. -/
def portPieces : List Piece := [.arbiter, .emitted, .sequences, .loadQueue]

/-- What a trace entry may move, with the closing of a capture that it may bring (R143, R166). -/
def tracePieces : List Piece := [.ring, .incidents, .sequences, .arbiter]

/-- What a trigger may move (R155, R161, R173). -/
def triggerPieces : List Piece := tracePieces ++ [.directory, .recorderCounts, .flags]

/-- What the requests of an event may move: trace entries, triggers, flags and health counts (R155, R192). -/
def requestPieces : List Piece := triggerPieces ++ [.health]

/-- What the publication of a directive's result may move (R20). -/
def resultPieces : List Piece := tracePieces ++ [.flags, .slot, .lastResult]

/-- What a change in the brake demand, the targets or the pressures may move, with all the requests of its event
(R51, R59 to R61, R103). -/
def brakePieces : List Piece :=
  requestPieces ++ [.slot, .lastResult, .blend, .slide, .traction, .air, .demandHanded, .emitted]

/-- What the air path test and the air channel may move in a step that makes no recompute. -/
def airStepPieces : List Piece := requestPieces ++ [.slot, .lastResult, .air, .emitted]

/-- Every piece but those named. -/
def allBut (kept : List Piece) : List Piece :=
  [Piece.inputs, .params, .path, .arbiter, .assembly, .slot, .lastResult, .loader, .loadQueue, .demand, .blend, .speed,
    .slide, .traction, .air, .receivers, .clock, .lines, .ring, .incidents, .sequences, .directory, .recorderCounts,
    .keys, .health, .flags, .directLevel, .demandHanded, .free, .emitted, .pending].filter fun p => !kept.contains p

/-- What each command may move, the grant of the memory-side port apart. -/
def ownPieces : Instr → List Piece
  | .processorTransaction _ | .servedRead => [.path]
  | .guardWrite | .servedWrite | .straddle => .path :: triggerPieces
  | .passResponse _ _ => [Piece.path, .loader, .demand, .assembly] ++ resultPieces
  | .reloadRequest | .anchorReadResponse _ _ | .configBurstResponse _ _ _ | .resultWordResponse _ => [.loader]
  | .configInstall _ => allBut [.inputs, .receivers, .clock, .keys, .directLevel, .free, .pending]
  | .storeBurstResponse _ => [Piece.directory, .flags, .incidents, .recorderCounts]
  | .openSequenceEnd => [.incidents]
  | .closeEntryWritten => [.directory, .flags, .recorderCounts]
  | .closeSequenceEnd => triggerPieces
  | .headerSequenceDone => [.directory]
  | .entrySequenceDone => [Piece.directory, .keys] ++ resultPieces
  | .eraseSequenceEnd => triggerPieces ++ resultPieces
  | .scanHeaderRead _ => [.directory, .flags, .loader]
  | .scanEntryRead _ => [.directory, .free]
  | .scanEnd _ _ => [.directory, .flags, .loader, .recorderCounts]
  | .storeWriteFault _ => .keys :: triggerPieces ++ resultPieces
  | .demandRecord | .freshnessTimerExpiry | .graceTimerExpiry => .demand :: brakePieces
  | .speedSample _ => [Piece.receivers, .speed, .free] ++ brakePieces
  | .sensorTimerExpiry | .standstillDwellExpiry => .speed :: brakePieces
  | .recoveryDwellExpiry _ | .holdDwellExpiry _ | .reapplyDwellExpiry _ | .releaseTimerExpiry _ => brakePieces
  | .frameDiscarded .speed _ => [Piece.receivers, .speed, .free] ++ brakePieces
  | .frameDiscarded .traction _ | .frameDiscarded .air _ => .receivers :: brakePieces
  | .dynReport _ | .airReport _ | .releaseAck _ => .receivers :: brakePieces
  | .keepaliveTimerExpiry _ | .replyTimerExpiry _ _ | .handshakeTimerExpiry => brakePieces
  | .phaseTimerExpiry => airStepPieces
  | .triggerLineChange _ _ | .debounceTimerExpiry _ => [Piece.lines, .demand] ++ brakePieces
  | .captureWindowExpiry => [.incidents]
  | .calendarWrap | .millisecondTick => [.clock, .flags]
  | .powerFailWarning => [.inputs, .incidents]
  | .powerFailWarningEnd => [.inputs]
  | .powerOnReset => allBut [.free, .pending]
  | .powerOnResetRelease _ _ _ => allBut [.params, .path, .receivers, .assembly, .keys, .directLevel, .free, .pending]
  | .coreReset => allBut [.params, .recorderCounts, .clock, .health, .demandHanded, .free, .pending]
  | .coreResetRelease _ _ _ =>
    allBut [.params, .path, .receivers, .assembly, .clock, .keys, .directLevel, .free, .pending]
  | .acknowledgeFlags => resultPieces
  | .setIndication => .directLevel :: resultPieces
  | .setTime => .clock :: resultPieces
  | .armTriggerLine => .lines :: resultPieces
  | .triggerIncident => triggerPieces ++ resultPieces
  | .eraseStore | .retainIncident | .releaseIncident | .setKey | .setRetentionLevel | .freeze => .keys :: resultPieces
  | .resetAttributes => [Piece.keys, .health] ++ resultPieces
  | .resetPenalty | .resetEmergency => .demand :: brakePieces
  | .clearSlideFault | .resumeTraction => brakePieces
  | .testAirPath | .abortAirPathTest => airStepPieces
  | .releaseTraction => .keys :: brakePieces

/-- What each command may move: its own pieces, and what the grant of a free port moves (R14). -/
def movable (c : Instr) : List Piece := ownPieces c ++ portPieces

/-! ### Words of the statements -/

/-- The directive in the slot is one of a code that awaits its dispatch answer (R19). -/
def Awaits (s : State) (c : DirectiveCode) (x : Slot) : Prop :=
  s.decoder.slot = some x ∧ x.code = c ∧ x.awaiting = true

/-- A directive has its final answer: the slot is empty and the last result names it (R19, R20). -/
def Answered (t : State) (x : Slot) (r : DirResult) : Prop :=
  t.decoder.slot = none ∧ t.decoder.last = ⟨x.tag, x.code.code, r⟩

/-- A directive is answered IN_PROGRESS and keeps the slot (R19, R20). -/
def UnderWay (t : State) (x : Slot) : Prop :=
  t.decoder.slot = some { x with awaiting := false } ∧ t.decoder.last = ⟨x.tag, x.code.code, .inProgress⟩

/-- A STORE burst is on the memory-side port, and its response counts. -/
def StoreOnPort (s : State) (b : StoreBurst) : Prop := s.arb.port = some (.store b) ∧ b.discard = false

/-- A LOAD burst is on the memory-side port, and its response counts. -/
def LoadOnPort (s : State) (b : LoadBurst) : Prop := s.arb.port = some (.load b) ∧ b.discard = false

/-- Bytes that a receiver waiting for a delimiter takes as exactly one whole frame (R209). -/
def OneFrame (bytes : List Byte) : Prop :=
  bytes.head? = some 0x7E#8 ∧ 4 ≤ bytes.length ∧ bytes.length = 8 + field 3 1 bytes

/-- A command that finds its event absent: nothing but the grant of a free port happens (log 3). -/
def Absent (c : Instr) (s : State) : Prop := ∃ t, exec c s = .next t ∧ Frame portPieces s t

/-- The directive that each directive command takes from the slot, and that every one but ABORT AIR PATH TEST needs
there (R19). -/
def directiveCommands : List (Instr × DirectiveCode) :=
  [(.acknowledgeFlags, .acknowledgeFlags), (.setIndication, .setIndication), (.setTime, .setTime),
    (.armTriggerLine, .armTriggerLine), (.triggerIncident, .triggerIncident), (.eraseStore, .eraseStore),
    (.retainIncident, .retainIncident), (.releaseIncident, .releaseIncident), (.setKey, .setKey),
    (.setRetentionLevel, .setRetentionLevel), (.resetAttributes, .resetAttributes), (.freeze, .freeze),
    (.resetPenalty, .resetPenalty), (.resetEmergency, .resetEmergency), (.clearSlideFault, .clearSlideFault),
    (.testAirPath, .testAirPath), (.releaseTraction, .releaseTraction), (.resumeTraction, .resumeTraction)]

/-- A LOAD burst has been asked for: it is on the port, waits as the claim, or waits in the loader (R2, R25). -/
def LoadAsked (t : State) (b : LoadBurst) : Prop :=
  t.arb.port = some (.load b) ∨ t.arb.load = some b ∨ b ∈ t.loader.queue

/-- A STORE burst has been presented: it is the claim that waits, or is on the port (R2). -/
def StoreAsked (t : State) (b : StoreBurst) : Prop := t.arb.store = some b ∨ t.arb.port = some (.store b)

/-- The write of the result word has been asked for with the last result: one beat at the anchor address plus 16, its
low four enables set, holding the code, the detail and the origin (R23, R25, section 12.3). -/
def ResultAsked (t : State) : Prop :=
  ∃ o, t.loader.result.origin = some o ∧ LoadAsked t ⟨.result, .write (t.loader.anchor + 16)
    [⟨beatOf (byte1 t.loader.result.code.code ++ byte1 t.loader.result.detail ++ byte1 o.code ++ zeros 5), 0x0F⟩],
    false⟩

/-- A recompute finds nothing to move in the slide unit and room in both outstanding lists. -/
structure Calm (s : State) : Prop where
  axles : ∀ x, s.slide.axles.get x = .adhering ∨ s.slide.axles.get x = .unsensed
  trucks : ∀ k, s.slide.trucks.get k = .apply ∨ s.slide.trucks.get k = .fault
  traction : s.traction.list.length < 4
  air : s.air.list.length < 4

/-- The trigger of a cause, stamped now (R155). -/
def stampNow (s : State) (c : TriggerCause) (cls : IncidentClass) : Cause :=
  ⟨c, cls, s.clock.op, s.clock.cal, s.clock.valid⟩

/-- A trigger finds the recorder IDLE, and an incident may open (R161). -/
def Opens (s : State) : Prop :=
  s.recorder.store = .ready ∧ s.chooseSlot.isSome = true ∧ s.recorder.lifetime < 4294967295

/-- A cause list with one more cause while it has fewer than four (R165). -/
def withCause (c : Cause) (xs : List Cause) : List Cause := if xs.length < 4 then xs ++ [c] else xs

/-- The further count where a cause finds the list as it is (R165). -/
def withFurther (xs : List Cause) (n : Nat) : Nat := if xs.length < 4 then n else satAdd 255 n

/-- The higher of two classes; the code of SERIOUS is the lowest (R165, section 12.2). -/
def higherClass (x y : IncidentClass) : IncidentClass := if y.code < x.code then y else x

/-- A ring with one more entry of now; at 48 entries the oldest goes first (R143). -/
def withEntry (s : State) (k : TraceKind) (ring : List TraceEntry) : List TraceEntry :=
  (if 48 ≤ ring.length then ring.drop 1 else ring) ++ [⟨k, s.clock.op⟩]

/-- A state after the trace entries of one event, in their order and none else (R144). -/
def Traced (ks : List TraceKind) (s t : State) : Prop :=
  t.recorder.ring = ks.foldl (fun ring k => withEntry s k ring) s.recorder.ring

/-- A write sequence has been asked for: it runs where none ran or waited, and comes last where one runs (R159). -/
def SequenceAsked (q : Sequence) (s t : State) : Prop :=
  (s.recorder.running = none → s.recorder.queue = [] → t.recorder.running.map Running.sequence = some q) ∧
    (s.recorder.running.isSome = true →
      t.recorder.running.map Running.sequence = s.recorder.running.map Running.sequence ∧
        t.recorder.queue = s.recorder.queue ++ [q])

/-- Parts have been asked for in a scan with none left: their bursts are presented one at a time in their order, each as
the one before it is granted (R2, R159). -/
def ScanAsked (ps : List Part) (s t : State) : Prop :=
  let waits (bs : List StoreBurst) (ps : List Part) : Prop :=
    match bs with
    | x :: xs => t.arb.store = some x ∧ t.recorder.running = some ⟨.scan, ps, xs⟩
    | [] => t.arb.store = none ∧ t.recorder.running = some ⟨.scan, ps, []⟩
  ∀ p rest x xs, ps = p :: rest → s.partBursts p = x :: xs →
    waits (x :: xs) rest ∨ t.arb.port = some (.store x) ∧
      match xs, rest with
      | y :: ys, _ => waits (y :: ys) rest
      | [], q :: qs => waits (s.partBursts q) qs
      | [], [] => waits [] []

/-- A HEADER sequence runs or waits (R173). -/
def HeaderAsked (t : State) : Prop :=
  t.recorder.running.map Running.sequence = some .header ∨ .header ∈ t.recorder.queue

/-- The running sequence has ended and another has been asked for: it comes after those that waited (R159). -/
def SequenceFollows (q : Sequence) (s t : State) : Prop :=
  (s.recorder.queue = [] → t.recorder.running.map Running.sequence = some q) ∧
    ∀ p rest, s.recorder.queue = p :: rest →
      t.recorder.running.map Running.sequence = some p ∧ t.recorder.queue = rest ++ [q]

/-- An incident has been opened: its number from the lifetime count, its slot the one chosen, with the next-slot index
behind it, and what it holds; `pre` are its pre entries (R162, R167). -/
def OpenedFor (first : Cause) (causes : List Cause) (further : Nat) (cls : IncidentClass) (pre : List TraceEntry)
    (s t : State) : Prop :=
  t.recorder.st = .opening ∧ t.recorder.lifetime = s.recorder.lifetime + 1 ∧
    ∃ i, t.recorder.incident = some i ∧ i.number = s.recorder.lifetime + 1 ∧ some i.slot = s.chooseSlot ∧
      t.recorder.nextSlot = (i.slot + 1) % s.params.slots ∧ i.openingTime = s.clock.op ∧ i.truncated = false ∧
      i.first = first ∧ i.causes = causes ∧ i.further = further ∧ i.cls = cls ∧ i.openingCls = cls ∧ i.pre = pre ∧
      i.post = [] ∧ i.snapshot = s.snapshot

/-- Eligibility has been examined again, by the image as it then is: the store's move, STORE_ALERT at the entry to FULL,
and the HEADER sequence at the entry to READY with the stale mark set (R160, R173). -/
structure Reexamined (s t : State) : Prop where
  moved : s.recorder.store = .ready ∨ s.recorder.store = .full →
    t.recorder.store = if t.recorder.image.any SlotEntry.eligible then .ready else .full
  kept : s.recorder.store ≠ .ready → s.recorder.store ≠ .full → t.recorder.store = s.recorder.store
  alert : s.recorder.store = .ready → t.recorder.store = .full → s.anyReset = false →
    flagSet t.status.flags .storeAlert = true
  header : s.recorder.store = .full → t.recorder.store = .ready → s.recorder.stale = true →
    s.recorder.running.isSome = true → s.recorder.running.map Running.sequence ≠ some .header → HeaderAsked t

/-- Incident assembly has disposed of a cause: it opens an incident, joins the open one, waits or joins what waits, or
is counted unstored (R161, R162, R165, R167, R173). -/
structure Disposed (c : Cause) (s t : State) : Prop where
  opened : s.recorder.st = .idle → Opens s →
    OpenedFor c [c] 0 c.cls s.recorder.ring s t ∧ SequenceAsked .opening s t
  unstored : s.recorder.st = .idle → ¬Opens s → t.recorder.st = .idle ∧
    t.recorder.lifetime = s.recorder.lifetime ∧ t.recorder.unstored = satAdd 65535 s.recorder.unstored ∧
    t.recorder.lastUnstored = some c ∧ t.recorder.stale = true ∧
    (s.anyReset = false → flagSet t.status.flags .storeAlert = true) ∧
    (s.recorder.store = .ready → HeaderAsked t)
  joined : s.recorder.st = .opening ∨ s.recorder.st = .capturing → t.recorder.st = s.recorder.st ∧
    t.recorder.incident = s.recorder.incident.map fun i => { i with
      causes := withCause c i.causes, further := withFurther i.causes i.further, cls := higherClass i.cls c.cls }
  waits : s.recorder.st = .closing ∨ s.recorder.st = .erasing → s.recorder.waiting = none →
    t.recorder.waiting = some ⟨c, [c], 0, c.cls⟩
  joinsWaiting : s.recorder.st = .closing ∨ s.recorder.st = .erasing → ∀ p, s.recorder.waiting = some p →
    t.recorder.waiting =
      some ⟨p.first, withCause c p.others, withFurther p.others p.further, higherClass p.cls c.cls⟩

/-- An event flag has been set, and nothing else (R198). -/
def Flagged (f : EventFlag) (s t : State) : Prop :=
  Frame [.flags] s t ∧ t.status.flags = s.status.flags ||| f.mask

/-- A trigger has been raised: its TRIGGER entry, then its disposal by incident assembly (R155). -/
def Raised (c : TriggerCause) (cls : IncidentClass) (s t : State) : Prop :=
  Frame triggerPieces s t ∧ ∃ u, Frame tracePieces s u ∧ Traced [.trigger c cls.code true] s u ∧
    Disposed (stampNow s c cls) u t

/-- Triggers of one class have been raised one after another, and nothing else. -/
def RaisedAll (cls : IncidentClass) : List TriggerCause → State → State → Prop
  | [], s, t => t = s
  | c :: cs, s, t => ∃ u, Raised c cls s u ∧ RaisedAll cls cs u t

/-- What follows the hand-off of an applied penalty: the PENALTY flag, one in PENALTIES, and the SERIOUS trigger (R46,
steps 5 to 7). -/
def PenaltyReported (c : TriggerCause) (s t : State) : Prop :=
  ∃ u, Flagged .penalty s u ∧ Raised c .serious (countHealth .penalties u) t

/-- The slide unit has moved to new states and has reported what moved: the AXLE entries from axle 1 to axle 6, the TRUCK
entries with the commanded pressure last handed, the counts, the flags, and the SLIDE_TIMEOUT triggers (R102, R108; truck A
before truck B in each step, log 48). -/
def SlideReported (new : SlideUnit) (s t : State) : Prop :=
  let old := s.slide
  let axles := allAxles.filter fun x => old.axles.get x != new.axles.get x
  let trucks := [Truck.a, .b].filter fun k => old.trucks.get k != new.trucks.get k
  let dumps := trucks.filter fun k => new.trucks.get k == .dump
  let faults := trucks.filter fun k => new.trucks.get k == .fault
  let entries : List TraceKind := axles.map (fun x =>
      .axle x (old.axles.get x) (new.axles.get x) (s.speed.slips.get x) (s.speed.axles.get x)) ++
    trucks.map fun k => .truck k (old.trucks.get k) (new.trucks.get k) (old.commanded.map fun p => p.get k)
  let counts : List Health := trucks.filterMap fun k => match old.trucks.get k, new.trucks.get k with
    | .apply, .dump => some .slideEpisodes
    | _, .fault => some .slideFaults
    | _, _ => none
  ∃ u v, Frame (.slide :: tracePieces) s u ∧ u.slide = new ∧ Traced entries s u ∧
    let counted := counts.foldl (fun w h => countHealth h w) u
    Frame [.flags] counted v ∧
      v.status.flags = counted.status.flags ||| (if dumps = [] then 0 else EventFlag.slide.mask) |||
        (if faults = [] then 0 else EventFlag.slideFault.mask) ∧
      RaisedAll .serious (faults.map TriggerCause.slideTimeout) v t

/-- From an offset on, bytes hold the fields listed, each of a size and a value, little-endian (R205). -/
def HoldsFields (off : Nat) (fields : List (Nat × Nat)) (bs : List Byte) : Prop :=
  slice off (fields.map Prod.fst).sum bs = fields.flatMap fun f => leBytes f.1 f.2

/-- A value that may be NONE as a field of n bytes shows it: NONE is all ones (R207). -/
def shown (n : Nat) (v : Option Nat) : Nat := v.getD (256 ^ n - 1)

/-- An axle's speed as a field of two bytes shows it: INVALID is FFFE, NONE all ones (R207). -/
def AxleSpeed.shown : AxleSpeed → Nat
  | .none => 0xFFFF
  | .invalid => 0xFFFE
  | .speed v => v

/-- The six detail bytes of a cause, field by field (section 12.8). -/
def TriggerCause.detailFields : TriggerCause → List (Nat × Nat)
  | .slideTimeout k | .gridTrip k => [(1, truckCode k), (5, 0)]
  | .health h => [(1, h.code), (5, 0)]
  | .pathViolation v => [(1, v.code), (5, 0)]
  | .line l => [(1, lineCode l), (5, 0)]
  | .software n => [(1, n), (5, 0)]
  | .testResult r ph p => [(1, r.code), (1, ph.code), (2, p.a), (2, p.b)]
  | .penaltyStale | .penaltyChecks | .emergencyDemand | .airLost | .tractionLost | .sensorLost | .releaseOverrun =>
    [(6, 0)]

/-- The kind and the contents of a trace entry, field by field, with the unused bytes up to byte 11 (section 12.9). -/
def TraceKind.fields : TraceKind → List (Nat × Nat)
  | .demand r gap => [(1, 1), (2, r.sequence), (1, r.fields.mode.code), (2, r.fields.effort),
      (2, r.fields.independent.a), (2, r.fields.independent.b), (1, r.fields.inhibit.toNat),
      (1, r.fields.policy.code + if gap then 2 else 0)]
  | .refusal reason n => [(1, 2), (1, reason.code), (2, n), (8, 0)]
  | .dstate old new c => [(1, 3), (1, old.code), (1, new.code), (1, c.code), (8, 0)]
  | .blend p sum l => [(1, 4), (2, p.a), (2, p.b), (2, sum), (1, l.code), (4, 0)]
  | .axle x old new slip speed =>
    [(1, 5), (1, axleCode x), (1, old.code), (1, new.code), (2, shown 2 slip), (2, speed.shown), (4, 0)]
  | .truck k old new p => [(1, 6), (1, truckCode k), (1, old.code), (1, new.code), (2, shown 2 p), (6, 0)]
  | .grid k old new t => [(1, 7), (1, truckCode k), (1, old.code), (1, new.code), (2, t), (6, 0)]
  | .channel l (.stateChange new) => [(1, 8), (1, linkCode l), (1, 0), (1, new), (8, 0)]
  | .channel l .stray => [(1, 8), (1, linkCode l), (1, 1), (1, 255), (8, 0)]
  | .channel l .late => [(1, 8), (1, linkCode l), (1, 2), (1, 255), (8, 0)]
  | .channel l .frameDiscarded => [(1, 8), (1, linkCode l), (1, 3), (1, 255), (8, 0)]
  | .path v a => [(1, 9), (1, v.code), (4, a.toNat), (6, 0)]
  | .watch i off d => [(1, 10), (3, i * 1048576 + off), (8, d.toNat)]
  | .directive code tag r => [(1, 11), (1, code), (2, tag), (1, r.code), (7, 0)]
  | .trigger c cls armed => [(1, 12), (1, c.code), (1, cls), (1, armed.toNat)] ++ c.detailFields ++ [(2, 0)]
  | .test ph o => [(1, 13), (1, ph.code), (1, o.code), (9, 0)]

/-- A frame of a kind and a sequence whose payload is the fields listed: delimiter, kind, sequence, length, payload, and
the CRC over kind to payload (R115, section 12.10). -/
def FrameHolds (kind seq : Nat) (fields : List (Nat × Nat)) (f : List Byte) : Prop :=
  let n := (fields.map Prod.fst).sum
  f.length = n + 8 ∧
    HoldsFields 0 ([(1, 0x7E), (1, kind), (1, seq), (1, n)] ++ fields ++ [(4, crc32 (slice 1 (3 + n) f))]) f

/-- Where no field of the status image lies: the bytes between the groups, and those after the last (section 12.7). -/
def imageGaps : List (Nat × Nat) :=
  [(3, 8), (14, 16), (37, 40), (108, 144), (149, 152), (191, 216), (222, 224), (238, 240), (289, 296), (302, 304),
    (326, 328), (339, 1024)]

/-- The status image shows what the owners of its fields hold (R197, R207, section 12.7). The codes 1 and 0 of the
marks, latches, levels and lines among them are the model's (log 19). -/
structure ImageShows (s : State) : Prop where
  identity : HoldsFields 0 [(2, 0x0640), (1, 1)] s.image
  load : HoldsFields 8 [(1, s.path.st.code), (1, s.loader.st.code), (1, s.loader.result.code.code),
    (1, s.loader.result.detail), (1, shown 1 (s.loader.result.origin.map LoadOrigin.code)),
    (1, s.loader.reached.toNat)] s.image
  demand : HoldsFields 16 [(1, s.demand.st.code), (1, s.demand.penaltyLatch.toNat), (1, s.demand.emergencyLatch.toNat),
    (1, s.demand.failCount), (4, shown 4 (s.demand.last.map DemandRecord.sequence)),
    (4, shown 4 s.demand.effective.sequence), (1, s.demand.effective.fields.mode.code),
    (1, s.demand.effective.fields.policy.code), (2, s.demand.effective.fields.effort),
    (2, s.demand.effective.fields.independent.a), (2, s.demand.effective.fields.independent.b),
    (1, s.demand.effective.fields.inhibit.toNat)] s.image
  axles : ∀ x, HoldsFields (40 + 8 * (axleCode x - 1)) [
    (2, (s.speed.axles.get x).shown),
    (2, shown 2 (s.speed.slips.get x)), (1, (s.slide.axles.get x).code), (1, s.blend.targets.get x),
    (1, shown 1 (s.traction.last.map fun d => d.achieved.get x)),
    (1, shown 1 (s.traction.last.map fun d => d.capability.get x))] s.image
  trucks : ∀ k, HoldsFields (88 + 10 * (truckCode k - 1)) [(2, s.blend.pressure.get k), (2, s.blend.commanded.get k),
    (2, shown 2 (s.air.last.map fun p => p.get k)), (1, (s.slide.trucks.get k).code), (1, (s.blend.grid.get k).code),
    (2, shown 2 (s.traction.last.map fun d => d.temperature.get k))] s.image
  speed : HoldsFields 144 [(1, s.speed.link.code), (2, shown 2 s.speed.reference), (1, s.speed.standstill.code),
    (1, s.slide.armed.toNat)] s.image
  links : HoldsFields 152 ([(1, s.traction.st.code), (1, s.traction.miss), (1, s.traction.good), (1, s.air.st.code),
    (1, s.air.miss), (1, s.air.good), (1, s.traction.hsKind.code), (1, s.traction.hsOrigin.code),
    (1, s.air.phase.code), (1, s.air.source.code),
    (1, (s.air.lastTest.map fun r => r.result.code).getD 0), (1, (s.air.lastTest.map fun r => r.phase.code).getD 0),
    (2, shown 2 (s.air.lastTest.map fun r => r.pressures.a)), (2, shown 2 (s.air.lastTest.map fun r => r.pressures.b)),
    (1, s.traction.last.isSome.toNat), (1, shown 1 (s.traction.last.map fun d => d.mode.code))] ++
    (allAxles.map fun x => (1, shown 1 (s.traction.last.map fun d => d.capability.get x))) ++
    (allAxles.map fun x => (1, shown 1 (s.traction.last.map fun d => d.achieved.get x))) ++
    [(2, shown 2 (s.traction.last.map fun d => d.temperature.a)),
      (2, shown 2 (s.traction.last.map fun d => d.temperature.b)), (1, s.air.last.isSome.toNat),
      (2, shown 2 (s.air.last.map Pair.a)), (2, shown 2 (s.air.last.map Pair.b))]) s.image
  lines : ∀ l, HoldsFields (216 + 2 * (lineCode l - 1))
    [(1, (lineActive (s.params.lines.get l) (s.lines.get l)).toNat), (1, (s.lines.get l).armed.toNat)] s.image
  recorder : HoldsFields 224 [(1, s.recorder.st.code), (1, s.recorder.store.code),
    (4, (s.recorder.incident.map Incident.number).getD 0), (4, s.recorder.lifetime), (2, s.recorder.nextSlot),
    (2, s.recorder.unstored)] s.image
  health : ∀ h, HoldsFields (240 + 6 * (h.code - 1)) [(2, s.retention.counts.get h), (2, (s.params.health.get h).threshold),
    (1, (s.params.health.get h).preFailure.toNat), (1, (s.retention.exceeded.get h).toNat)] s.image
  verdict : HoldsFields 288 [(1, s.retention.verdict.code)] s.image
  keys : HoldsFields 296 [(1, s.retention.maintenance.isSome.toNat), (1, s.retention.authority.isSome.toNat),
    (1, s.retention.strict.toNat), (1, s.retention.failed), (1, s.retention.lock.toNat),
    (1, s.retention.frozen.toNat)] s.image
  directive : HoldsFields 304 [(2, s.decoder.last.tag), (1, s.decoder.last.code), (1, s.decoder.last.result.code),
    (1, s.decoder.slot.isSome.toNat), (1, shown 1 (s.decoder.slot.map fun x => x.code.code)),
    (2, shown 2 (s.decoder.slot.map Slot.tag))] s.image
  time : HoldsFields 312 [(2, s.clock.cal.year), (1, s.clock.cal.month), (1, s.clock.cal.day), (1, s.clock.cal.hour),
    (1, s.clock.cal.minute), (1, s.clock.cal.second), (2, s.clock.cal.ms), (1, s.clock.valid.toNat),
    (4, s.clock.op)] s.image
  status : HoldsFields 328 [(2, s.status.flags.toNat), (2, s.params.enableSet.toNat), (1, s.params.source.code),
    (1, s.params.invert.toNat), (1, s.params.activation), (1, s.status.direct.toNat), (1, s.attention.toNat),
    (1, s.indication.toNat), (1, s.faultLine.toNat)] s.image
  rest : ∀ g ∈ imageGaps, ∀ k, g.1 ≤ k → k < g.2 → s.image[k]? = some 0

/-- A numeric field of the configuration record, or one of named values whose codes have no gap: its number, its place and
size in the record, and its bounds. -/
structure FieldRange where
  number : Nat
  offset : Nat
  size : Nat
  low : Nat
  high : Nat

/-- The field table's rows of one value with bounds, in the units of the record (section 2.4, section 12.4). -/
def numericFields : List FieldRange :=
  [⟨9, 144, 2, 20, 1000⟩, ⟨10, 146, 2, 0, 2000⟩, ⟨11, 148, 1, 1, 8⟩, ⟨12, 149, 1, 10, 200⟩, ⟨13, 150, 1, 10, 200⟩,
    ⟨14, 151, 2, 200, 450⟩, ⟨15, 153, 2, 150, 450⟩, ⟨16, 155, 2, 200, 550⟩, ⟨17, 157, 2, 50, 450⟩,
    ⟨18, 159, 2, 0, 200⟩, ⟨19, 161, 1, 0, 1⟩, ⟨20, 162, 1, 25, 100⟩, ⟨21, 163, 2, 300, 700⟩, ⟨22, 165, 2, 320, 760⟩,
    ⟨23, 167, 2, 200, 680⟩, ⟨24, 169, 1, 5, 50⟩, ⟨25, 170, 1, 5, 50⟩, ⟨26, 171, 1, 2, 20⟩, ⟨27, 172, 1, 1, 30⟩,
    ⟨28, 173, 2, 50, 500⟩] ++
  [⟨29, 175, 1, 10, 100⟩, ⟨30, 176, 1, 10, 100⟩, ⟨31, 177, 1, 5, 99⟩, ⟨32, 178, 1, 2, 30⟩, ⟨33, 179, 2, 100, 2000⟩,
    ⟨34, 181, 2, 100, 2000⟩, ⟨35, 183, 2, 100, 3000⟩, ⟨36, 185, 1, 30, 90⟩, ⟨37, 186, 2, 1000, 8000⟩,
    ⟨38, 188, 1, 5, 100⟩, ⟨39, 189, 1, 1, 8⟩, ⟨40, 190, 1, 1, 8⟩, ⟨41, 191, 2, 10, 500⟩, ⟨42, 193, 2, 100, 5000⟩] ++
  [⟨43, 195, 2, 100, 450⟩, ⟨44, 197, 1, 5, 50⟩, ⟨45, 198, 2, 500, 10000⟩, ⟨46, 200, 1, 0, 24⟩, ⟨47, 201, 1, 1, 60⟩,
    ⟨48, 202, 1, 1, 50⟩, ⟨49, 203, 1, 1, 50⟩, ⟨50, 204, 1, 0, 1⟩, ⟨51, 205, 2, 8, 256⟩, ⟨52, 207, 1, 0, 1⟩,
    ⟨53, 208, 1, 0, 1⟩, ⟨54, 209, 1, 1, 32⟩, ⟨58, 225, 2, 0, 0x3FFF⟩, ⟨59, 227, 1, 0, 15⟩, ⟨60, 228, 1, 0, 1⟩]

/-- The last millisecond of 2099; second 60 counts like second 59 (R140). -/
def EndOf2099 (c : Calendar) : Prop :=
  999 ≤ c.ms ∧ 59 ≤ c.second ∧ 59 ≤ c.minute ∧ 23 ≤ c.hour ∧ monthLength c.year c.month ≤ c.day ∧ 12 ≤ c.month ∧
    c.year = 2099

/-- A slot that an opening may choose: its entry EMPTY, CLOSED or INTERRUPTED with the mark clear, and no RETAIN
INCIDENT in hand that names it (R160, R161, R191). -/
def Choosable (s : State) (k : Nat) : Prop :=
  s.retention.inHand ≠ some (k, true) ∧ ∃ e, s.recorder.image[k]? = some e ∧ e.retained = false ∧
    (e.state = .empty ∨ e.state = .closed ∨ e.state = .interrupted)

/-- The verdict of the statuses under the kinds in force (R194). -/
structure VerdictShown (s : State) : Prop where
  preFailure : s.retention.verdict = .preFailure ↔
    ∃ h, s.retention.exceeded.get h = true ∧ (s.params.health.get h).preFailure = true
  sound : s.retention.verdict = .sound ↔ ∀ h, s.retention.exceeded.get h = false

/-- The slot that a part names, or the first of the slots it names (R163, R175, R177, R179). -/
def Part.names : Part → Option Nat
  | .entryWrite k _ | .scanSlotHeader k | .scanFooter k | .repairBeat k _ | .repairEntry k _ => some k
  | .eraseEntries first _ | .scanEntries first => some first
  | .openEntry | .openHeader | .slotHeader | .snapshot | .preEntries | .partialCrc | .postEntries | .footer
  | .closedBeat | .closeEntry | .closeHeader | .headerOnly | .eraseHeader | .scanHeader | .scanHeaderWrite => none

/-- The layouts of what the store's sequences write, the trace entries among it, and what the two CRCs cover (R208,
sections 12.8 and 12.9). The code 1 or 0 of a stamped cause's valid mark is the model's (log 19), and so is the byte 255
of an entry UNREADABLE or UNKNOWN (log 52). -/
structure StoreLaidOut : Prop where
  cause : ∀ c : Cause, c.bytes.length = 24 ∧ HoldsFields 0 [(1, c.cause.code), (1, c.cls.code)] c.bytes ∧
    HoldsFields 2 c.cause.detailFields c.bytes ∧
    HoldsFields 8 [(4, c.op), (2, c.cal.year), (1, c.cal.month), (1, c.cal.day), (1, c.cal.hour), (1, c.cal.minute),
      (1, c.cal.second), (2, c.cal.ms), (1, c.valid.toNat), (2, 0)] c.bytes
  entry : ∀ e : SlotEntry, HoldsFields 0 [(1, match e.state with
      | .empty => 0
      | .opened => 1
      | .closed => 2
      | .interrupted => 3
      | .unreadable | .unknown => 255), (1, e.retained.toNat), (1, e.cls)] e.bytes ∧
    HoldsFields 4 [(4, e.number)] e.bytes
  header : ∀ n next lifetime (c : ClassCounts) unstored (last : Option Cause),
    let bs := headerBytes n next lifetime c unstored last
    HoldsFields 0 [(4, 0x53544F31), (2, n), (2, next), (4, lifetime), (2, c.serious), (2, c.advisory),
      (2, c.operator), (2, c.test), (2, unstored), (1, last.isSome.toNat), (1, 0)] bs ∧
    slice 24 24 bs = (last.map Cause.bytes).getD (zeros 24) ∧ slice 48 15 bs = zeros 15
  slotHeader : ∀ i : Incident, i.slotHeader.length = 64 ∧ HoldsFields 0 [(1, 1), (3, 0), (4, i.number)] i.slotHeader ∧
    slice 8 24 i.slotHeader = i.first.bytes ∧ HoldsFields 32 [(4, i.openingTime), (1, i.pre.length)] i.slotHeader ∧
    slice 37 27 i.slotHeader = zeros 27
  entries : ∀ x : TraceEntry, x.bytes.length = 16 ∧ HoldsFields 0 (x.kind.fields ++ [(4, x.op)]) x.bytes
  snapshot : ∀ s : State, s.snapshot.length = 128 ∧ slice 0 48 s.snapshot = slice 40 48 s.image ∧
    slice 48 20 s.snapshot = slice 88 20 s.image ∧
    HoldsFields 68 [(2, shown 2 s.speed.reference), (1, s.speed.standstill.code), (1, s.traction.st.code),
      (1, s.air.st.code), (1, s.speed.link.code), (1, s.demand.st.code)] s.snapshot ∧
    slice 75 53 s.snapshot = zeros 53
  partialCrc : ∀ i : Incident, i.partialBytes =
    leBytes 4 (crc32 (slice 4 60 i.slotHeader ++ i.snapshot ++ i.pre.flatMap TraceEntry.bytes)) ++ zeros 4
  footer : ∀ i : Incident, i.footerBytes.length = 116 ∧
    HoldsFields 0 [(1, i.cls.code), (1, i.causes.length), (1, i.further), (1, i.post.length), (1, i.closingMark.code),
      (3, 0), (4, i.closingTime), (4, 0)] i.footerBytes ∧
    slice 16 96 i.footerBytes = padTo 96 (i.causes.flatMap Cause.bytes) ∧
    slice 112 4 i.footerBytes = leBytes 4 (crc32 (slice 4 60 i.slotHeader ++ i.snapshot ++
      i.pre.flatMap TraceEntry.bytes ++ i.partialBytes ++ i.post.flatMap TraceEntry.bytes ++
      slice 0 112 i.footerBytes))

/-! ### Invariants -/

/-- The capacities: the trace ring (R143), the outstanding lists (R120), the wait counts (R15), the failed-attempt
count with the lock it sets (R185), the causes of the open incident and of the pending trigger (R165, R167), and the
assembly buffers' beats and marks (section 1.6, R36). -/
structure Capacities (s : State) : Prop where
  ring : s.recorder.ring.length ≤ 48
  traction : s.traction.list.length ≤ 4
  air : s.air.list.length ≤ 4
  storeWait : s.arb.storeWait ≤ 32
  passWait : s.arb.passWait ≤ 32
  failed : s.retention.failed ≤ 5
  locked : s.retention.failed = 5 → s.retention.lock = true
  causes : ∀ i, s.recorder.incident = some i → i.causes.length ≤ 4
  others : ∀ p, s.recorder.waiting = some p → p.others.length ≤ 4
  directiveBuffer : s.decoder.asm.beats.length = 4 ∧ s.decoder.asm.present.length = 3
  demandBuffer : s.demand.asm.beats.length = 8 ∧ s.demand.asm.present.length = 7

/-- The demand supervisor: its state with its latches, timers, last record and effective demand (R42 to R47, R50). -/
structure DemandSound (s : State) : Prop where
  vent : s.demand.emergencyLatch = true ↔ s.demand.st = .emergency
  penaltyHolds : s.demand.penaltyLatch = true → s.demand.st = .penalty ∨ s.demand.st = .emergency
  penaltyLatched : s.demand.st = .penalty → s.demand.penaltyLatch = true
  fresh : s.demand.freshness.isRunning = true ↔ s.demand.st = .live
  grace : s.demand.grace.isRunning = true ↔ s.demand.st = .stale
  recorded : s.demand.st = .live ∨ s.demand.st = .stale → s.demand.last.isSome = true
  effective : s.demand.effective = effectiveDemand s.demand.st s.demand.held s.demand.last

/-- The slide unit: each dwell timer runs in the state it bounds, and a truck's release timer exactly while the truck
is in DUMP, HOLD or REAPPLY (R101, R106, R107). -/
structure SlideSound (s : State) : Prop where
  recovery : ∀ x, (s.slide.recovery.get x).isRunning = true ↔ s.slide.axles.get x = .recovering
  hold : ∀ t, (s.slide.hold.get t).isRunning = true ↔ s.slide.trucks.get t = .hold
  reapply : ∀ t, (s.slide.reapply.get t).isRunning = true ↔ s.slide.trucks.get t = .reapply
  release : ∀ t, (s.slide.release.get t).isRunning = true ↔
    s.slide.trucks.get t = .dump ∨ s.slide.trucks.get t = .hold ∨ s.slide.trucks.get t = .reapply

/-- The configuration in force is one that the checks let through (R27 to R29), and a checked candidate is whole and
has passed them; the path is ACTIVE exactly with a window table in use, whose windows share no byte (R3, R28). -/
structure ConfigSound (s : State) : Prop where
  candidate : s.loader.checked = true → 64 ≤ s.loader.candidate.length ∧
    configFailure s.loader.anchor (beatsBytes s.loader.candidate) = none
  fraction : s.params.reapplyFraction ≤ 90
  order : s.params.penalty ≤ s.params.pmax ∧ s.params.pmax ≤ s.params.emergency
  active : s.path.st = .active ↔ s.path.windows.isSome = true
  apart : ∀ ws, s.path.windows = some ws → ws.Pairwise fun v w => v.overlaps w = false

/-- Slide control never commands a truck a pressure above its blend pressure (R69), and outside a reset a penalty or
an emergency gives each truck at least the penalty pressure (R68). -/
structure PressureBound (s : State) : Prop where
  commanded : ∀ t, s.blend.commanded.get t ≤ s.blend.pressure.get t
  penalty : s.anyReset = false → (s.demand.st = .penalty ∨ s.demand.st = .emergency) →
    ∀ t, s.params.penalty ≤ s.blend.pressure.get t

/-- An incident is open exactly in OPENING, CAPTURING and CLOSING, with a number that the lifetime count has reached
(R157, R162). -/
structure IncidentSound (s : State) : Prop where
  opened : s.recorder.incident.isSome = true ↔
    s.recorder.st = .opening ∨ s.recorder.st = .capturing ∨ s.recorder.st = .closing
  number : ∀ i, s.recorder.incident = some i → i.number ≤ s.recorder.lifetime

/-- A part in reset: what stays at rest while a reset is asserted (R16, R22, R24, R143, R198). -/
structure AtRest (s : State) : Prop where
  flags : s.status.flags = 0
  ring : s.recorder.ring = []
  path : s.path.st = .transparent ∧ s.path.windows = none
  loader : s.loader.st = .idle ∧ s.loader.checked = false ∧ s.loader.requests = 0 ∧ s.loader.queue = []
  claims : s.arb.load = none ∧ s.arb.store = none
  loadPort : ∀ b, s.arb.port = some (.load b) → b.discard = true
  storePort : ∀ b, s.arb.port = some (.store b) → b.discard = true
  directives : s.decoder.slot = none ∧ s.decoder.aborts = []
  inbox : s.demand.inbox = []
  timers : s.demand.freshness = .stopped ∧ s.demand.grace = .stopped ∧ ∀ l, (s.lines.get l).debounce = .stopped
  units : s.speed = .initial ∧ s.slide = .initial ∧ s.traction = State.reset.traction ∧
    ∃ l, s.air = { State.reset.air with lastTest := l }
  recorder : s.recorder.st = .idle ∧ s.recorder.store = .unchecked ∧ s.recorder.incident = none ∧
    s.recorder.waiting = none ∧ s.recorder.running = none ∧ s.recorder.queue = [] ∧ s.recorder.scan = none

/-- While a reset is asserted the part is at rest, and under the power-on reset the ports hold nothing. -/
structure ResetSound (s : State) : Prop where
  rest : s.anyReset = true → AtRest s
  ports : s.inputs.powerOnReset = true → s.path.held = none ∧ s.arb.port = none ∧ s.arb.pass = none

end Sys2Proof.Machine
end

