-- ==== Sys2Proof/Certificates/Slice0/Obligations.lean ====
section
/-! DEFINITION. The statements about the model. -/

open Sys2Proof Sys2Proof.Machine

/-! ### The machine -/

/-- One step runs the command at the front of the queue on the state with the queue's rest; with no command waiting
the part idles (the model's own, log 2). -/
def Obligations.StepRunsTheFrontCommand : Prop :=
  (∀ c rest s, s.pending = c :: rest → step s = exec c { s with pending := rest }) ∧
    ∀ s, s.pending = [] → step s = .next s

/-- Every command has a next state in every state, and leaves the queue (log 37). -/
def Obligations.NoCommandStops : Prop := ∀ c s, ∃ t, exec c s = .next t ∧ t.pending = s.pending

/-- The frame of all seventy commands: every piece of State outside `movable c` is unchanged. -/
def Obligations.EveryCommandKeepsItsFrame : Prop := ∀ c s t, exec c s = .next t → Frame (movable c) s t

/-- A command whose event is not there does nothing but grant a free port (log 3): a transaction that is not accepted, a
response without its burst, a processor step without its held transaction, an expiry without its running timer, a step of
a record, a request, a candidate or a directive that is not there, a reset or a warning already in force or already over,
a wrap away from the last moment, and a frame in a reset. -/
def Obligations.NothingHappensWithoutItsEvent : Prop :=
  (∀ s x, s.inputs.powerOnReset = true ∨ x.wellFormed = false ∨ s.path.held.isSome = true ∨ s.loader.checked = true →
      Absent (.processorTransaction x) s) ∧
    (∀ s, (∀ h off, s.path.held = some h → h.cls = .served off → txnIsWrite h.txn = true) → Absent .servedRead s) ∧
    (∀ s, (∀ h, s.path.held = some h → h.cls = .guarded → txnIsWrite h.txn = false) → Absent .guardWrite s) ∧
    (∀ s, (∀ h off, s.path.held = some h → h.cls = .served off → txnIsWrite h.txn = false) → Absent .servedWrite s) ∧
    (∀ s, (∀ h, s.path.held = some h → h.cls ≠ .straddle) → Absent .straddle s) ∧
    (∀ s r d, (∀ p, s.arb.port ≠ some (.pass p)) ∨ s.path.held = none → Absent (.passResponse r d) s) ∧
    (∀ s r d, (∀ b, LoadOnPort s b → b.kind ≠ .anchor) → Absent (.anchorReadResponse r d) s) ∧
    (∀ s r d o, (∀ b, LoadOnPort s b → b.kind ≠ .config) → Absent (.configBurstResponse r d o) s) ∧
    (∀ s r, (∀ b, LoadOnPort s b → b.kind ≠ .result) → Absent (.resultWordResponse r) s) ∧
    (∀ s d, (∀ b, StoreOnPort s b →
      b.part ∈ [Part.partialCrc, .closeEntry, .closeHeader, .headerOnly, .scanHeader, .scanHeaderWrite] ∨
        (∃ k m, b.part = .entryWrite k m) ∨ (∃ first, b.part = .scanEntries first) ∨
        ∃ first keep, b.part = .eraseEntries first keep ∧ s.params.slots ≤ first + 8) →
      Absent (.storeBurstResponse d) s) ∧
    (∀ s c p, (c, p) ∈ [(Instr.openSequenceEnd, Part.partialCrc), (.closeEntryWritten, .closeEntry),
        (.closeSequenceEnd, .closeHeader), (.headerSequenceDone, .headerOnly)] →
      (∀ b, StoreOnPort s b → b.part ≠ p) → Absent c s) ∧
    (∀ s, (∀ b k m, StoreOnPort s b → b.part ≠ .entryWrite k m) → Absent .entrySequenceDone s) ∧
    (∀ s, (∀ b first keep, StoreOnPort s b → b.part = .eraseEntries first keep → first + 8 < s.params.slots) →
      Absent .eraseSequenceEnd s) ∧
    (∀ s d, (∀ b, StoreOnPort s b → b.part ≠ .scanHeader) → Absent (.scanHeaderRead d) s) ∧
    (∀ s d, (∀ b first, StoreOnPort s b → b.part ≠ .scanEntries first) → Absent (.scanEntryRead d) s) ∧
    (∀ s o, s.scanDue = false → Absent (.scanEnd none o) s) ∧
    (∀ s o, (∀ b, StoreOnPort s b → b.part ≠ .scanHeaderWrite) → Absent (.scanEnd (some .ok) o) s) ∧
    (∀ s o, (∀ b, StoreOnPort s b → b.part.ofScan = false) → Absent (.scanEnd (some .error) o) s) ∧
    (∀ s o, (∀ b, StoreOnPort s b → b.part.ofScan = true) → Absent (.storeWriteFault o) s) ∧
    (∀ s, s.demand.inbox = [] → Absent .demandRecord s) ∧
    (∀ s, s.demand.freshness = .stopped ∨ s.demand.st ≠ .live → Absent .freshnessTimerExpiry s) ∧
    (∀ s, s.demand.grace = .stopped ∨ s.demand.st ≠ .stale → Absent .graceTimerExpiry s) ∧
    (∀ s, s.speed.sensor = .stopped → Absent .sensorTimerExpiry s) ∧
    (∀ s, s.speed.dwell = .stopped ∨ s.speed.standstill ≠ .dwelling → Absent .standstillDwellExpiry s) ∧
    (∀ s x, s.slide.recovery.get x = .stopped → Absent (.recoveryDwellExpiry x) s) ∧
    (∀ s k, s.slide.hold.get k = .stopped → Absent (.holdDwellExpiry k) s) ∧
    (∀ s k, s.slide.reapply.get k = .stopped → Absent (.reapplyDwellExpiry k) s) ∧
    (∀ s k, s.slide.release.get k = .stopped → Absent (.releaseTimerExpiry k) s) ∧
    (∀ s, s.traction.keepalive = .stopped → Absent (.keepaliveTimerExpiry .traction) s) ∧
    (∀ s, s.air.keepalive = .stopped → Absent (.keepaliveTimerExpiry .air) s) ∧
    (∀ s (n : Byte), (∀ e ∈ s.traction.list, e.sequence ≠ n.toNat) → Absent (.replyTimerExpiry .traction n) s) ∧
    (∀ s (n : Byte), (∀ e ∈ s.air.list, e.sequence ≠ n.toNat) → Absent (.replyTimerExpiry .air n) s) ∧
    (∀ s, s.traction.hsTimer = .stopped ∨ (s.traction.st ≠ .releasing ∧ s.traction.st ≠ .resuming) →
      Absent .handshakeTimerExpiry s) ∧
    (∀ s, s.air.phaseTimer = .stopped ∨ s.air.phase = .none → Absent .phaseTimerExpiry s) ∧
    (∀ s bytes, s.anyReset = true → Absent (.speedSample bytes) s ∧ Absent (.dynReport bytes) s ∧
      Absent (.airReport bytes) s ∧ Absent (.releaseAck bytes) s ∧ ∀ l, Absent (.frameDiscarded l bytes) s) ∧
    (∀ s l, (s.lines.get l).debounce = .stopped → Absent (.debounceTimerExpiry l) s) ∧
    (∀ s, s.recorder.st ≠ .capturing ∨ (∀ i, s.recorder.incident = some i → i.window = .stopped) →
      Absent .captureWindowExpiry s) ∧
    (∀ s, s.clock.cal.year ≤ 2099 → ¬EndOf2099 s.clock.cal → Absent .calendarWrap s) ∧
    (∀ s, s.inputs.powerFail = true → Absent .powerFailWarning s) ∧
    (∀ s, s.inputs.powerFail = false → Absent .powerFailWarningEnd s) ∧
    (∀ s, s.inputs.powerOnReset = true → Absent .powerOnReset s) ∧
    (∀ s, s.inputs.coreReset = true → Absent .coreReset s) ∧
    (∀ s a b g, s.inputs.powerOnReset = false → Absent (.powerOnResetRelease a b g) s) ∧
    (∀ s a b p, s.inputs.coreReset = false → Absent (.coreResetRelease a b p) s) ∧
    (∀ s, s.loader.requests = 0 → Absent .reloadRequest s) ∧
    (∀ s b, s.loader.checked = false ∨ s.path.held.isSome = true → Absent (.configInstall b) s) ∧
    (∀ s c d, (c, d) ∈ directiveCommands → s.awaiting d = none → Absent c s) ∧
    ∀ s, s.decoder.aborts = [] → s.awaiting .abortAirPathTest = none → Absent .abortAirPathTest s

/-- State.reset holds the values the manual gives for the power-on reset of the part as shipped (section 00, chapters
1 to 11). -/
def Obligations.ResetHoldsTheManualsValues : Prop :=
  State.reset.inputs.powerOnReset = true ∧ State.reset.params = defaultParams ∧
    State.reset.path = ⟨.transparent, none, none⟩ ∧ State.reset.arb.storeWait = 0 ∧ State.reset.arb.passWait = 0 ∧
    State.reset.decoder.slot = none ∧ State.reset.decoder.last = ⟨0, 0, .none⟩ ∧ State.reset.loader.st = .idle ∧
    State.reset.loader.result = ⟨.none, 0, none⟩ ∧ State.reset.loader.configFault = false ∧
    State.reset.demand.st = .noDemand ∧ State.reset.demand.penaltyLatch = false ∧
    State.reset.demand.emergencyLatch = false ∧ State.reset.demand.effective = .noDemand ∧
    State.reset.blend.targets = Six.all 0 ∧ State.reset.blend.commanded = ⟨0, 0⟩ ∧
    State.reset.blend.grid = ⟨.cool, .cool⟩ ∧ State.reset.speed = .initial ∧ State.reset.slide = .initial ∧
    State.reset.traction.st = .starting ∧ State.reset.air.st = .starting ∧ State.reset.clock.op = 0 ∧
    State.reset.recorder.ring = [] ∧ State.reset.recorder.st = .idle ∧ State.reset.recorder.store = .unchecked ∧
    State.reset.recorder.lifetime = 0 ∧ State.reset.recorder.unstored = 0 ∧
    State.reset.retention.maintenance = none ∧ State.reset.retention.authority = none ∧
    State.reset.retention.strict = false ∧ State.reset.retention.verdict = .sound ∧ State.reset.status.flags = 0 ∧
    State.reset.vent = false ∧ State.reset.attention = false ∧ State.reset.indication = false ∧
    State.reset.faultLine = false

/-! ### The path -/

/-- PROCESSOR_TRANSACTION: an accepted transaction is held with its class, whether it is a reload request, and for a
served read the image of that moment; one that passes is a PASS claim, granted at once on a free port with no other claim
(R1, R4, R5, R6, R10, R14). -/
def Obligations.AcceptedTransactionIsHeldAndPassed : Prop :=
  ∀ s x, s.inputs.powerOnReset = false → x.wellFormed = true → s.path.held = none → s.loader.checked = false →
    ∃ t, exec (.processorTransaction x) s = .next t ∧
      t.path = { s.path with held := some ⟨x, s.classOf x, s.watchedReload (s.classOf x) x,
        s.snapshotFor (txnIsWrite x) (s.classOf x)⟩ } ∧
      (s.path.st = .transparent → s.classOf x = .transparent) ∧
      (s.watchedReload (s.classOf x) x = true ↔
        s.inputs.coreReset = false ∧ (s.classOf x = .transparent ∨ s.classOf x = .anchor) ∧
          ∃ k b, (txnBeats x)[k]? = some b ∧ txnAddr x + BitVec.ofNat 32 (8 * k) = s.loader.anchor + 24 ∧
            b.enables &&& 0x0F = 0x0F ∧ b.data.toNat % 2 ^ 32 = 0x4C) ∧
      ((∃ off, s.classOf x = .served off) → txnIsWrite x = false →
        s.snapshotFor (txnIsWrite x) (s.classOf x) = some s.image) ∧
      ((∀ off, s.classOf x ≠ .served off) ∨ txnIsWrite x = true →
        s.snapshotFor (txnIsWrite x) (s.classOf x) = none) ∧
      (s.arb.port.isSome = true → t.emitted = [] ∧
        t.arb = { s.arb with pass := if (s.classOf x).passes (txnIsWrite x) then some x else s.arb.pass }) ∧
      ((s.classOf x).passes (txnIsWrite x) = true → s.arb.port = none → s.arb.load = none → s.arb.store = none →
        t.arb.port = some (.pass x) ∧ t.arb.pass = none ∧ t.emitted = [.memory x])

/-- The classes of a transaction in ACTIVE, with windows that share no byte: by the window's kind with the offset from its
base, STRADDLE, ANCHOR or OUTSIDE; and which addresses a window in use and the anchor block hold (R5). -/
def Obligations.TransactionClassesFollowTheWindows : Prop :=
  (∀ (anchor : Addr) (ws : List Window) (x : Transaction), (ws.Pairwise fun v w => v.overlaps w = false) →
    1 ≤ txnLength x →
    (∀ i w, ws[i]? = some w → (∀ a ∈ beatAddrs x, w.holds a = true) →
      let off := (txnAddr x).toNat - w.base
      (w.kind = .demand → classify anchor ws x = .demand off) ∧
        (w.kind = .directive → classify anchor ws x = .directive off) ∧
        (w.kind = .served → classify anchor ws x = .served off) ∧
        (w.kind = .guarded → classify anchor ws x = .guarded) ∧
        (w.kind = .watch → classify anchor ws x = .watch i off)) ∧
    ((∃ w ∈ ws, ∃ a ∈ beatAddrs x, w.holds a = true) → (∀ w ∈ ws, ∃ a ∈ beatAddrs x, w.holds a = false) →
      classify anchor ws x = .straddle) ∧
    ((∀ w ∈ ws, ∀ a ∈ beatAddrs x, w.holds a = false) → (∃ a ∈ beatAddrs x, inAnchor anchor a = true) →
      classify anchor ws x = .anchor) ∧
    ((∀ w ∈ ws, ∀ a ∈ beatAddrs x, w.holds a = false) → (∀ a ∈ beatAddrs x, inAnchor anchor a = false) →
      classify anchor ws x = .outside)) ∧
    (∀ (w : Window) (a : Addr), w.holds a = true ↔
      w.kind ≠ .unused ∧ w.base ≤ a.toNat ∧ a.toNat + 8 ≤ w.base + w.size) ∧
    (∀ anchor a : Addr, inAnchor anchor a = true ↔ anchor.toNat ≤ a.toNat ∧ a.toNat < anchor.toNat + 256) ∧
    (∀ v w : Window, v.overlaps w = false ↔
      v.kind = .unused ∨ w.kind = .unused ∨ w.base + w.size ≤ v.base ∨ v.base + v.size ≤ w.base) ∧
    ∀ x k, k < txnLength x → (beatAddrs x)[k]? = some (txnAddr x + BitVec.ofNat 32 (8 * k))

/-- The law of R5: while the path is ACTIVE no processor write that touches the guarded window, and no processor read
that touches the served window, becomes a PASS claim. -/
def Obligations.GuardedAndServedWindowsNeverPass : Prop :=
  ∀ s x ws w, s.path.st = .active → s.path.windows = some ws → (ws.Pairwise fun u v => u.overlaps v = false) →
    s.inputs.powerOnReset = false → s.inputs.coreReset = false → s.path.held = none → s.loader.checked = false →
    x.wellFormed = true → w ∈ ws → (∃ a ∈ beatAddrs x, w.holds a = true) →
    (w.kind = .guarded ∧ txnIsWrite x = true ∨ w.kind = .served ∧ txnIsWrite x = false) →
    ∃ t, exec (.processorTransaction x) s = .next t ∧ t.path.held.map Held.txn = some x ∧
      (s.arb.port.isSome = true → t.arb = s.arb ∧ t.emitted = []) ∧
      (s.arb.port = none → s.arb.load = none → s.arb.store = none → s.arb.pass = none →
        t.arb.port = none ∧ t.emitted = [])

/-- SERVED_READ: the held served read is answered OK from the image taken at its acceptance, zeros beyond it (R10); the
image shows what the owners of its fields hold, each at its place (R197, section 12.7). That the penalty and emergency
latches, the keys set, the key lock, the frozen state, the calendar valid mark, the trigger lines' levels, the direct
level, the output lines and the marks of a report present are shown as 1 or 0 is the model's choice (log 19). -/
def Obligations.ServedReadAnswersFromTheImage : Prop :=
  (∀ s h off, s.path.held = some h → h.cls = .served off → txnIsWrite h.txn = false →
    ∃ t, exec .servedRead s = .next t ∧ t.path = { s.path with held := none } ∧
      t.emitted.head? = some (.response .ok (servedBeats (h.snapshot.getD []) off (txnLength h.txn)))) ∧
    (∀ s : State, s.image.length = 1024 ∧ ImageShows s) ∧
    ∀ (image : List Byte) off n k, image.length = 1024 → k < n →
      (off + 8 * k + 8 ≤ 1024 → (servedBeats image off n)[k]? = some (beatOf (slice (off + 8 * k) 8 image))) ∧
      (1024 ≤ off + 8 * k → (servedBeats image off n)[k]? = some 0)

/-- GUARD_WRITE, SERVED_WRITE, STRADDLE: the held transaction is answered ERROR, after a PATH entry, the PATH_VIOLATION
flag and a trigger, which the recorder takes with no incident open and none pending and disposes of, and drops elsewhere
(R9 to R12, R153, R161). -/
def Obligations.StoppedTransactionsAreReported : Prop :=
  let triggered (v : Violation) (s t : State) : Prop := s.anyReset = false →
    let taken := (s.recorder.st = .idle ∨ s.recorder.st = .erasing) ∧ s.recorder.waiting = none
    let c := stampNow s (.pathViolation v) .advisory
    (taken → s.recorder.st = .idle → Opens s →
      t.recorder.st = .opening ∧ t.recorder.lifetime = s.recorder.lifetime + 1 ∧
        ∃ i, t.recorder.incident = some i ∧ i.number = s.recorder.lifetime + 1 ∧ some i.slot = s.chooseSlot ∧
          i.first = c ∧ i.causes = [c] ∧ i.cls = .advisory ∧
          ⟨.trigger (.pathViolation v) 2 true, s.clock.op⟩ ∈ i.pre) ∧
    (taken → s.recorder.st = .idle → ¬Opens s →
      t.recorder.st = .idle ∧ t.recorder.unstored = satAdd 65535 s.recorder.unstored ∧
        t.recorder.lastUnstored = some c ∧ flagSet t.status.flags .storeAlert = true) ∧
    (taken → s.recorder.st = .erasing → t.recorder.waiting = some ⟨c, [c], 0, .advisory⟩) ∧
    (¬taken → t.recorder.waiting = s.recorder.waiting ∧
      t.recorder.incident.map Incident.causes = s.recorder.incident.map Incident.causes ∧
      Frame (.path :: .flags :: tracePieces ++ portPieces) s t)
  ∀ s h, s.path.held = some h →
    (h.cls = .guarded → txnIsWrite h.txn = true →
      ∃ t, exec .guardWrite s = .next t ∧ t.path = { s.path with held := none } ∧
        t.emitted.head? = some (.response .error []) ∧
        (s.anyReset = false → flagSet t.status.flags .pathViolation = true ∧
          ⟨.path .guardWrite (txnAddr h.txn), s.clock.op⟩ ∈ t.recorder.ring) ∧ triggered .guardWrite s t) ∧
    (h.cls.isServed = true → txnIsWrite h.txn = true →
      ∃ t, exec .servedWrite s = .next t ∧ t.path = { s.path with held := none } ∧
        t.emitted.head? = some (.response .error []) ∧
        (s.anyReset = false → flagSet t.status.flags .pathViolation = true ∧
          ⟨.path .servedWrite (txnAddr h.txn), s.clock.op⟩ ∈ t.recorder.ring) ∧ triggered .servedWrite s t) ∧
    (h.cls = .straddle →
      ∃ t, exec .straddle s = .next t ∧ t.path = { s.path with held := none } ∧
        t.emitted.head? = some (.response .error
          (if txnIsWrite h.txn then [] else List.replicate (txnLength h.txn) 0)) ∧
        (s.anyReset = false → flagSet t.status.flags .pathViolation = true ∧
          ⟨.path .straddle (txnAddr h.txn), s.clock.op⟩ ∈ t.recorder.ring) ∧ triggered .straddle s t)

/-- PASS_RESPONSE: memory's answer goes to the processor as memory gave it; nothing follows an ERROR, a read or an
answer under the core reset line; a seen reload request is handed to the loader, and a write to a watch window makes its
sample's entry while watch tracing is ON, of the window's index, the offset and the first beat with each byte that is not
enabled as zero (R4, R6, R7, R8). -/
def Obligations.PassResponseIsReturned : Prop :=
  ∀ s p h r d, s.arb.port = some (.pass p) → s.path.held = some h →
    ∃ t, exec (.passResponse r d) s = .next t ∧ t.path = { s.path with held := none } ∧
      t.emitted.head? = some (.response r (if txnIsWrite h.txn then [] else d)) ∧
      (r = .error ∨ txnIsWrite h.txn = false ∨ s.inputs.coreReset = true → Frame (.path :: portPieces) s t) ∧
      (r = .ok → txnIsWrite h.txn = true → s.inputs.coreReset = false →
        t.loader.requests = s.loader.requests + if h.reload then 1 else 0) ∧
      ∀ i off addr b rest, h.cls = .watch i off → h.txn = .write addr (b :: rest) → r = .ok → s.anyReset = false →
        (s.params.watchTracing = false → Frame (.path :: .loader :: portPieces) s t) ∧
        (s.params.watchTracing = true → Frame (.path :: .loader :: tracePieces ++ portPieces) s t ∧
          ∃ d : BeatData, ⟨.watch i off d, s.clock.op⟩ ∈ t.recorder.ring ∧
            ∀ k, k < 8 → d.extractLsb' (8 * k) 8 =
              if b.enables.getLsbD k = true then b.data.extractLsb' (8 * k) 8 else 0)

/-- The beats of a write to the demand window are taken one by one from the offset's beat: a full one is stored, a
partial one tears, a full beat 7 completes the record for the supervisor with what the buffer holds, and beats beyond are
ignored; so a full write of the eight beats completes a record by itself (R7, R36). -/
def Obligations.DemandWriteCompletesARecord : Prop :=
  (∀ s p h addr (beats : List WriteBeat) off, s.arb.port = some (.pass p) → s.path.held = some h →
    h.txn = .write addr beats → h.cls = .demand off → s.inputs.coreReset = false →
    ∃ t, exec (.passResponse .ok []) s = .next t ∧ Frame (.path :: .loader :: .demand :: portPieces) s t ∧
      t.demand = ((beats.zipIdx (off / 8)).foldl (fun u x => takeDemandBeat x.2 x.1 u) s).demand) ∧
  (∀ s i (b : WriteBeat), let a := s.demand.asm
    (7 < i → takeDemandBeat i b s = s) ∧
    (i ≤ 7 → b.enables ≠ 0xFF#8 →
      takeDemandBeat i b s = { s with demand := { s.demand with asm := { a with torn := true } } }) ∧
    (i < 7 → b.enables = 0xFF#8 → takeDemandBeat i b s = { s with demand := { s.demand with
      asm := ⟨a.beats.set i b.data, a.present.set i true, a.torn⟩ } }) ∧
    (i = 7 → b.enables = 0xFF#8 → takeDemandBeat i b s = { s with demand := { s.demand with
      asm := ⟨a.beats.set 7 b.data, a.present.map fun _ => false, false⟩
      inbox := s.demand.inbox ++ [⟨a.beats.set 7 b.data, a.present, a.torn, s.params.pmax⟩] } })) ∧
  ∀ s p h addr (beats : List WriteBeat), s.arb.port = some (.pass p) → s.path.held = some h →
    h.txn = .write addr beats → h.cls = .demand 0 → s.inputs.coreReset = false → beats.length = 8 →
    (∀ b ∈ beats, b.enables = 0xFF#8) → s.demand.asm.beats.length = 8 → s.demand.asm.present.length = 7 →
    ∃ t, exec (.passResponse .ok []) s = .next t ∧
      t.demand.inbox = s.demand.inbox ++
        [⟨beats.map WriteBeat.data, List.replicate 7 true, s.demand.asm.torn, s.params.pmax⟩] ∧
      t.demand.asm = ⟨beats.map WriteBeat.data, List.replicate 7 false, false⟩

/-- The beats of a write to the directive window are taken one by one from the offset's beat: a full one is stored, a
partial one tears, a full beat 3 completes the record with what the buffer holds, and beats beyond are ignored; a
completed record is checked in the order of R18: CHECK, UNKNOWN, ARGUMENT by the ranges of each directive, BUSY, else it
is dispatched to the slot, or beside it for ABORT AIR PATH TEST (R17 to R20, R142). A refusal is published: the last
result and, out of reset, the DIRECTIVE_DONE flag and the DIRECTIVE entry. What every publication does, what the final
result of the directive in the slot does besides, and what IN_PROGRESS does alone (R19, R20). -/
def Obligations.DirectiveWriteIsCheckedInOrder : Prop :=
  let ruled (whole : Bool) (bs : List Byte) (s t : State) : Prop :=
    let r := directiveOfBytes bs
    let refused (tag code : Nat) (x : DirResult) : Prop :=
      t.decoder.last = ⟨tag, code, x⟩ ∧ t.decoder.slot = s.decoder.slot ∧
        (s.anyReset = false → flagSet t.status.flags .directiveDone = true ∧ Traced [.directive code tag x] s t)
    if whole = false ∨ r.crc ≠ crc32 r.covered then refused 0 0 .check
    else
      match DirectiveCode.ofCode r.code with
      | none => refused r.tag r.code .unknown
      | some c =>
        if r.argumentsGood s c = false then refused r.tag r.code .argument
        else if s.slotAdmits c = false then refused r.tag r.code .busy
        else if s.decoder.slot = none then
          t.decoder.slot = some ⟨c, r.tag, r.args, keyNameOf r.keyName, r.key, true⟩ ∧
            t.decoder.last = s.decoder.last
        else t.decoder.aborts = s.decoder.aborts ++ [r.tag] ∧ t.decoder.slot = s.decoder.slot
  (∀ s p h addr (beats : List WriteBeat), s.arb.port = some (.pass p) → s.path.held = some h →
    h.txn = .write addr beats → h.cls = .directive 0 → s.inputs.coreReset = false → beats.length = 4 →
    (∀ b ∈ beats, b.enables = 0xFF#8) → s.decoder.asm.beats.length = 4 → s.decoder.asm.present.length = 3 →
    ∃ t, exec (.passResponse .ok []) s = .next t ∧
      ruled (!s.decoder.asm.torn) (beatsBytes (beats.map WriteBeat.data)) s t) ∧
  (∀ s p h addr (beats : List WriteBeat) off, s.arb.port = some (.pass p) → s.path.held = some h →
    h.txn = .write addr beats → h.cls = .directive off → s.inputs.coreReset = false →
    ∃ t, exec (.passResponse .ok []) s = .next t ∧
      t.decoder = ((beats.zipIdx (off / 8)).foldl (fun u x => takeDirectiveBeat x.2 x.1 u) s).decoder) ∧
  (∀ s i (b : WriteBeat), let a := s.decoder.asm
    (3 < i → takeDirectiveBeat i b s = s) ∧
    (i ≤ 3 → b.enables ≠ 0xFF#8 →
      takeDirectiveBeat i b s = { s with decoder := { s.decoder with asm := { a with torn := true } } }) ∧
    (i < 3 → b.enables = 0xFF#8 → takeDirectiveBeat i b s = { s with decoder := { s.decoder with
      asm := ⟨a.beats.set i b.data, a.present.set i true, a.torn⟩ } }) ∧
    (i = 3 → b.enables = 0xFF#8 →
      (takeDirectiveBeat i b s).decoder.asm = ⟨a.beats.set 3 b.data, a.present.map fun _ => false, false⟩ ∧
        ruled (a.present.all id && !a.torn) (beatsBytes (a.beats.set 3 b.data)) s (takeDirectiveBeat i b s))) ∧
  (∀ bs, directiveOfBytes bs = ⟨field 0 1 bs, field 1 2 bs, slice 3 13 bs, field 16 1 bs,
    BitVec.ofNat 64 (field 17 8 bs), field 28 4 bs, slice 0 28 bs⟩) ∧
  (∀ s (r : DirectiveRecord) c, r.argumentsGood s c = true ↔
    (c.keyBearing = true → r.keyName = 1 ∨ r.keyName = 2) ∧
      let byte (k : Nat) : Nat := field k 1 r.args
      let word := field 0 2 r.args
      match c with
      | .acknowledgeFlags => word < 2 ^ 14
      | .setIndication | .eraseStore | .setRetentionLevel => byte 0 = 0 ∨ byte 0 = 1
      | .setTime => 2000 ≤ word ∧ word ≤ 2099 ∧ 1 ≤ byte 2 ∧ byte 2 ≤ 12 ∧ 1 ≤ byte 3 ∧
          byte 3 ≤ (if byte 2 = 2 then (if word % 4 = 0 then 29 else 28)
            else if byte 2 ∈ [4, 6, 9, 11] then 30 else 31) ∧
          byte 4 ≤ 23 ∧ byte 5 ≤ 59 ∧ byte 6 ≤ 60
      | .armTriggerLine => 1 ≤ byte 0 ∧ byte 0 ≤ 3
      | .retainIncident | .releaseIncident => word < s.params.slots
      | .clearSlideFault => byte 0 = 1 ∨ byte 0 = 2
      | _ => True) ∧
  (∀ (s : State) c, s.slotAdmits c = true ↔ s.decoder.slot = none ∨
    (c = .abortAirPathTest ∧ ∃ x, s.decoder.slot = some x ∧ x.code = .testAirPath)) ∧
  (∀ tag code r s, let t := publish tag code r s
    t.decoder = { s.decoder with last := ⟨tag, code, r⟩ } ∧ Frame (.lastResult :: .flags :: tracePieces) s t ∧
      (s.anyReset = true → Frame [.lastResult] s t) ∧
      (s.anyReset = false → t.status.flags = s.status.flags ||| EventFlag.directiveDone.mask ∧
        Traced [.directive code tag r] s t)) ∧
  (∀ s c r, (∀ x, s.decoder.slot = some x → x.code = c →
      finish c r s = publish x.tag c.code r { s with decoder := { s.decoder with slot := none } }) ∧
    ((∀ x, s.decoder.slot = some x → x.code ≠ c) → finish c r s = s)) ∧
  ∀ s x, s.decoder.slot = some x → UnderWay (inProgress s) x ∧ Frame [.slot, .lastResult] s (inProgress s)

/-- The arbiter's choice on a free port: LOAD first; STORE before PASS under a power-fail warning; else the preferred
side, unless the other side's wait count has reached the wait limit (R14). A grant puts the burst out, clears its own
side's wait count, and counts for a claim of the other side that waits, by the store priority and without a warning; LOAD
leaves both counts (R15). In the grant the recorder and the loader present the next burst of their sequence (R2). -/
def Obligations.ArbiterChoosesByPriority : Prop :=
  (∀ s b, s.arb.port = none → (arbitrate s).arb.port = some (.load b) → ∀ x xs, s.loader.queue = x :: xs →
    (arbitrate s).arb.load = some x ∧ (arbitrate s).loader.queue = xs) ∧
  (∀ s b r, s.arb.port = none → (arbitrate s).arb.port = some (.store b) → s.recorder.running = some r →
    (∀ x xs, r.bursts = x :: xs → (arbitrate s).arb.store = some x ∧
      (arbitrate s).recorder.running = some { r with bursts := xs }) ∧
    (r.bursts = [] → ∀ pre p ps x xs, r.parts = pre ++ p :: ps → (∀ q ∈ pre, s.partBursts q = []) →
      s.partBursts p = x :: xs → (arbitrate s).arb.store = some x ∧
        (arbitrate s).recorder.running = some ⟨r.sequence, ps, xs⟩)) ∧
  ∀ s, s.arb.port = none →
    (∀ b, s.arb.load = some b → (arbitrate s).arb.port = some (.load b)) ∧
    (s.arb.load = none → ∀ b x, s.arb.store = some b → s.arb.pass = some x →
      (arbitrate s).arb.port =
        if s.inputs.powerFail = true then some (.store b)
        else if s.params.storeHigh = true then
          if s.params.waitLimit ≤ s.arb.passWait then some (.pass x) else some (.store b)
        else if s.params.waitLimit ≤ s.arb.storeWait then some (.store b) else some (.pass x)) ∧
    (s.arb.load = none → ∀ b, s.arb.store = some b → s.arb.pass = none →
      (arbitrate s).arb.port = some (.store b)) ∧
    (s.arb.load = none → s.arb.store = none → ∀ x, s.arb.pass = some x →
      (arbitrate s).arb.port = some (.pass x)) ∧
    (s.arb.load = none → s.arb.store = none → s.arb.pass = none → arbitrate s = s) ∧
    (∀ b, (arbitrate s).arb.port = some (.load b) → s.arb.load = some b ∧
      (arbitrate s).arb.storeWait = s.arb.storeWait ∧ (arbitrate s).arb.passWait = s.arb.passWait ∧
      (arbitrate s).arb.store = s.arb.store ∧ (arbitrate s).arb.pass = s.arb.pass ∧
      (arbitrate s).emitted = s.emitted ++ [.memory b.burst]) ∧
    (∀ x, (arbitrate s).arb.port = some (.pass x) → s.arb.pass = some x ∧ (arbitrate s).arb.passWait = 0 ∧
      (arbitrate s).arb.storeWait =
        (if s.arb.store.isSome = true ∧ s.params.storeHigh = false ∧ s.inputs.powerFail = false then
          satAdd 32 s.arb.storeWait else s.arb.storeWait) ∧
      (arbitrate s).arb.store = s.arb.store ∧ (arbitrate s).arb.pass = none ∧
      (arbitrate s).emitted = s.emitted ++ [.memory x]) ∧
    ∀ b, (arbitrate s).arb.port = some (.store b) → s.arb.store = some b ∧ (arbitrate s).arb.storeWait = 0 ∧
      (arbitrate s).arb.passWait =
        (if s.arb.pass.isSome = true ∧ s.params.storeHigh = true ∧ s.inputs.powerFail = false then
          satAdd 32 s.arb.passWait else s.arb.passWait) ∧
      (arbitrate s).arb.pass = s.arb.pass ∧ (arbitrate s).emitted = s.emitted ++ [.memory b.burst]

/-! ### The resets -/

/-- POWER_ON_RESET: the initial state, with the default parameters and no demand; what is non-volatile, the calendar
clock and the inputs are kept (section 00 "Resets", R22, R30, R156, R180, R182, R203). The directory image is UNKNOWN, the
verdict that of the statuses kept under the default kinds. That a held transaction without a burst or a claim is dropped
is the model's choice (log 51). -/
def Obligations.PowerOnResetGivesTheInitialState : Prop :=
  ∀ s, s.inputs.powerOnReset = false →
    ∃ t, exec .powerOnReset s = .next t ∧ t.inputs = { s.inputs with powerOnReset := true } ∧
      t.params = defaultParams ∧ t.path = ⟨.transparent, none, none⟩ ∧ t.arb = ⟨none, none, none, none, 0, 0⟩ ∧
      t.decoder = State.reset.decoder ∧ t.loader = { State.reset.loader with anchor := s.loader.anchor } ∧
      t.demand = State.reset.demand ∧ t.vent = false ∧ t.blend = State.reset.blend ∧ t.speed = .initial ∧
      t.slide = .initial ∧ t.traction = State.reset.traction ∧ t.air = State.reset.air ∧
      t.clock = ⟨0, s.clock.cal, s.clock.valid⟩ ∧
      (∀ l, t.lines.get l = ⟨(s.lines.get l).input, .clear, false, .stopped⟩) ∧
      t.recorder.ring = [] ∧ t.recorder.st = .idle ∧ t.recorder.store = .unchecked ∧ t.recorder.incident = none ∧
      t.recorder.waiting = none ∧ t.recorder.running = none ∧ t.recorder.queue = [] ∧
      t.recorder.lifetime = s.recorder.lifetime ∧ t.recorder.classCounts = s.recorder.classCounts ∧
      t.recorder.unstored = s.recorder.unstored ∧ t.recorder.lastUnstored = s.recorder.lastUnstored ∧
      t.retention.maintenance = s.retention.maintenance ∧ t.retention.authority = s.retention.authority ∧
      t.retention.strict = s.retention.strict ∧ t.retention.counts = s.retention.counts ∧
      t.retention.exceeded = s.retention.exceeded ∧ t.retention.failed = 0 ∧ t.retention.lock = false ∧
      t.retention.frozen = false ∧ t.retention.inHand = none ∧
      VerdictShown t ∧ t.recorder.image = List.replicate 64 .unread ∧ t.recorder.nextSlot = 0 ∧
      t.recorder.stale = false ∧ t.recorder.scan = none ∧ t.status.flags = 0 ∧ t.status.direct = false ∧
      t.status.demandHanded = .noDemand ∧ t.rx = ⟨[], [], []⟩ ∧ t.emitted = []

/-- CORE_RESET: the path is TRANSPARENT, claims of the part are withdrawn and its granted bursts' responses discarded, a
PASS claim and a granted PASS burst stay, the load and the directive are abandoned with both assembly buffers' marks,
the latches keep their demand state and the pressures stand; the blend unit's held, last traced and last handed values are
NONE; the debounce timers stop, the lines keep the rest, and the recorder keeps its non-volatile counts (R4, R16, R21, R24,
R56, R78, R93, R113, R137, R156, R180). Under the power-on reset the line alone is asserted, since that reset's effects
stand (R22). -/
def Obligations.CoreResetKeepsTheBrakeAndStopsTheRest : Prop :=
  (∀ s, s.inputs.powerOnReset = true → s.inputs.coreReset = false →
    ∃ t, exec .coreReset s = .next t ∧ t.inputs = { s.inputs with coreReset := true } ∧
      Frame (.inputs :: portPieces) s t) ∧
  ∀ s, s.inputs.powerOnReset = false → s.inputs.coreReset = false →
    let unmarked (a : Assembly) : Assembly := { a with present := a.present.map fun _ => false, torn := false }
    ∃ t, exec .coreReset s = .next t ∧ t.inputs = { s.inputs with coreReset := true } ∧
      t.path = { s.path with st := .transparent, windows := none } ∧
      t.arb.load = none ∧ t.arb.store = none ∧ t.arb.storeWait = 0 ∧ t.arb.passWait = 0 ∧
      (∀ b, t.arb.port = some (.load b) → b.discard = true) ∧
      (∀ b, t.arb.port = some (.store b) → b.discard = true) ∧
      (∀ x, s.arb.port = some (.pass x) → t.arb.port = some (.pass x)) ∧
      (s.arb.port.isSome = true → t.arb.pass = s.arb.pass) ∧
      (s.arb.port = none → ∀ x, s.arb.pass = some x → t.arb.port = some (.pass x) ∧ t.arb.pass = none) ∧
      t.decoder.slot = none ∧ t.decoder.abandoned = (s.decoder.slot.map fun x => (x.tag, x.code)) ∧
      t.decoder.asm = unmarked s.decoder.asm ∧ t.demand.asm = unmarked s.demand.asm ∧
      t.decoder.last = s.decoder.last ∧ t.loader.st = .idle ∧ t.loader.result = s.loader.result ∧
      t.loader.configFault = s.loader.configFault ∧ t.params = s.params ∧
      t.demand.st = (if s.demand.emergencyLatch then .emergency else if s.demand.penaltyLatch then .penalty
        else .noDemand) ∧
      t.demand.emergencyLatch = s.demand.emergencyLatch ∧ t.demand.penaltyLatch = s.demand.penaltyLatch ∧
      t.demand.last = none ∧ t.demand.failCount = 0 ∧ t.demand.freshness = .stopped ∧ t.demand.grace = .stopped ∧
      t.demand.held = none ∧ t.vent = s.vent ∧
      t.blend = {
        targets := Six.all 0
        pressure := s.blend.pressure
        commanded := s.blend.commanded
        held := ⟨none, none⟩
        grid := ⟨.cool, .cool⟩
        traced := none
        handedTargets := none
        handedAir := none
        handedSlide := none } ∧ t.speed = .initial ∧ t.slide = .initial ∧
      t.traction = State.reset.traction ∧ t.air = { State.reset.air with lastTest := s.air.lastTest } ∧
      t.clock = s.clock ∧
      (∀ l, t.lines.get l = { s.lines.get l with debounce := .stopped }) ∧ t.rx = ⟨[], [], []⟩ ∧
      t.recorder.ring = [] ∧ t.recorder.st = .idle ∧ t.recorder.store = .unchecked ∧ t.recorder.incident = none ∧
      t.recorder.waiting = none ∧ t.recorder.running = none ∧ t.recorder.queue = [] ∧ t.recorder.scan = none ∧
      t.recorder.image = List.replicate s.params.slots .unread ∧ t.recorder.nextSlot = 0 ∧ t.recorder.stale = false ∧
      t.recorder.lifetime = s.recorder.lifetime ∧ t.recorder.classCounts = s.recorder.classCounts ∧
      t.recorder.unstored = s.recorder.unstored ∧ t.recorder.lastUnstored = s.recorder.lastUnstored ∧
      t.retention = { s.retention with inHand := none } ∧
      t.status.flags = 0 ∧ t.status.direct = false

/-- POWER_ON_RESET_RELEASE and CORE_RESET_RELEASE: with the other reset released, the straps select the anchor
address, the first load asks for the anchor, the sensor timer starts, CLOCK_INVALID follows the valid mark, and an
abandoned directive is published; the detectors are CLEAR and the debounce timers start, and a line with debounce NONE is
detected where it is ACTIVE; with the other reset asserted, nothing begins (R21, R22, R24, R84, R141, R148, R156, R200). -/
def Obligations.ReleaseBeginsTheFirstLoad : Prop :=
  let started (s t : State) : Prop := ∀ l, let c := s.params.lines.get l
    let v := s.lines.get l
    let found := c.debounce = .none ∧ v.input ≠ c.activeLow
    t.lines.get l = ⟨v.input, if found then .detected else .clear, v.armed && (c.repeating || !decide found),
      match c.debounce.period with
      | some p => .running ((s.clock.op + p) % 2 ^ 32)
      | none => .stopped⟩
  (∀ s a b g, s.inputs.powerOnReset = true → s.inputs.coreReset = false → AtRest s → s.arb.port = none →
    ∃ t, exec (.powerOnResetRelease a b g) s = .next t ∧ t.inputs = { s.inputs with powerOnReset := false } ∧
      t.loader.st = .readingAnchor ∧ t.loader.origin = .start ∧ t.loader.anchor = Config.anchorAddress a b ∧
      t.arb.port = some (.load ⟨.anchor, .read (Config.anchorAddress a b) 2, false⟩) ∧
      t.speed = { s.speed with sensor := .running ((s.clock.op + s.params.sensorTimeout) % 2 ^ 32) } ∧
      t.clock = (if g then s.clock else ⟨s.clock.op, .first, false⟩) ∧
      (t.clock.valid = false → flagSet t.status.flags .clockInvalid = true) ∧
      started s t ∧ t.status.demandHanded = t.demand.st) ∧
    (∀ s a b p, s.inputs.coreReset = true → s.inputs.powerOnReset = false → AtRest s →
      ∃ t, exec (.coreResetRelease a b p) s = .next t ∧ t.inputs = { s.inputs with coreReset := false } ∧
        t.loader.st = .readingAnchor ∧ t.loader.origin = .start ∧ t.loader.anchor = Config.anchorAddress a b ∧
        (s.arb.port = none → t.arb.port = some (.load ⟨.anchor, .read (Config.anchorAddress a b) 2, false⟩)) ∧
        t.speed = { s.speed with sensor := .running ((s.clock.op + s.params.sensorTimeout) % 2 ^ 32) } ∧
        (s.clock.valid = false → flagSet t.status.flags .clockInvalid = true) ∧
        started s t ∧ t.status.demandHanded = t.demand.st ∧
        ∀ tag c, s.decoder.abandoned = some (tag, c) →
          t.decoder.last = ⟨tag, c.code, .abandoned⟩ ∧ t.decoder.abandoned = none ∧
            flagSet t.status.flags .directiveDone = true) ∧
    (∀ s a b g, s.inputs.powerOnReset = true → s.inputs.coreReset = true →
      ∃ t, exec (.powerOnResetRelease a b g) s = .next t ∧ t.inputs = { s.inputs with powerOnReset := false } ∧
        Frame (.inputs :: .clock :: portPieces) s t) ∧
    (∀ s a b p, s.inputs.powerOnReset = true → s.inputs.coreReset = true →
      ∃ t, exec (.coreResetRelease a b p) s = .next t ∧ t.inputs = { s.inputs with coreReset := false } ∧
        Frame (.inputs :: portPieces) s t) ∧
    Config.anchorAddress false false = 0x00008000 ∧ Config.anchorAddress false true = 0x01000000 ∧
    Config.anchorAddress true false = 0x3FFFF000 ∧ Config.anchorAddress true true = 0x7FFFF000

/-! ### The loader -/

/-- ANCHOR_READ_RESPONSE and RESULT_WORD_RESPONSE: a good anchor block brings the eight bursts of the configuration
read, the first on the port and the second waiting; any other ends the load with its result, whose word is then asked
for. The result word's OK sets the reached mark where it carries the last result (R23 to R25, R31; the mark is the model's
choice, log 21). -/
def Obligations.AnchorResponseBringsTheConfigurationRead : Prop :=
  ∀ s b, LoadOnPort s b →
    (b.kind = .anchor → ∀ r d,
      ∃ t, exec (.anchorReadResponse r d) s = .next t ∧
        let bs := beatsBytes d
        let good := r = .ok ∧ field 0 4 bs = 0x41535431 ∧ checksumHolds (slice 0 16 bs) = true ∧
          field 4 4 bs % 8 = 0
        let burst (k : Nat) : LoadBurst :=
          ⟨.config, .read (BitVec.ofNat 32 (field 4 4 bs) + BitVec.ofNat 32 (64 * k)) 8, false⟩
        (good → t.loader.st = .readingConfig ∧ t.loader.configAddr = BitVec.ofNat 32 (field 4 4 bs) ∧
          (s.loader.queue = [] → s.arb.load = none → t.arb.port = some (.load (burst 0)) ∧
            t.arb.load = some (burst 1) ∧
            t.loader.queue = [burst 2, burst 3, burst 4, burst 5, burst 6, burst 7])) ∧
        (¬good → t.loader.st = (if s.loader.origin = .reload then .ready else .fault) ∧
          t.loader.configFault = (s.loader.configFault || s.loader.origin != .reload) ∧
          t.loader.result = ⟨if r = .error then .memoryError else .anchorBad, 0, some s.loader.origin⟩ ∧
          t.loader.reached = false ∧ ResultAsked t)) ∧
    (b.kind = .result → ∀ r,
      ∃ t, exec (.resultWordResponse r) s = .next t ∧
        t.loader.reached = (s.loader.reached || (r == .ok &&
          b.burst == .write (s.loader.anchor + 16) [resultBeat s.loader.result])) ∧
        t.loader.result = s.loader.result ∧ t.loader.st = s.loader.st)

/-- CONFIG_BURST_RESPONSE: the candidate grows by the burst's beats; the whole one is checked, and the first check it
fails gives the result, whose word is then asked for; an ERROR is MEMORY_ERROR (R25, R26, R31). The checks: the fields'
ranges by number (R27, section 12.4), the window rules by the lowest entry that breaks one (R28), and the order checks
(R29). -/
def Obligations.ConfigurationBurstsAreGatheredAndChecked : Prop :=
  (∀ s b r d o, LoadOnPort s b → b.kind = .config →
    ∃ t, exec (.configBurstResponse r d o) s = .next t ∧
      let c := s.loader.candidate ++ d
      let failed (code : LoadCode) (detail : Nat) : Prop :=
        t.loader.st = (if s.loader.origin = .reload then .ready else .fault) ∧
          t.loader.configFault = (s.loader.configFault || s.loader.origin != .reload) ∧
          t.loader.result = ⟨code, detail, some s.loader.origin⟩ ∧ t.loader.reached = false ∧
          t.loader.candidate = [] ∧ t.loader.checked = false ∧ ResultAsked t
      (r = .error → failed .memoryError 0) ∧
        (r = .ok → d.length = 8 → c.length < 64 → t.loader.candidate = c ∧ t.loader.st = s.loader.st ∧
          t.loader.checked = s.loader.checked ∧ t.loader.result = s.loader.result) ∧
        (r = .ok → d.length = 8 → 64 ≤ c.length →
          let bs := beatsBytes c
          (checksumHolds (slice 0 512 bs) = false → failed .configChecksum 0) ∧
            (checksumHolds (slice 0 512 bs) = true → field 0 2 bs ≠ 1 → failed .configVersion 0) ∧
            (checksumHolds (slice 0 512 bs) = true → field 0 2 bs = 1 →
              (∀ n, firstFailing (fieldsGood bs) = some n → failed .configRange n) ∧
              (firstFailing (fieldsGood bs) = none →
                let w := firstWindowBreak s.loader.anchor (field 205 2 bs) (parseWindows bs)
                let q := firstFailing (orderChecks (parseParams bs))
                (∀ n, w = some n → failed .configWindows n) ∧
                (w = none → (∀ n, q = some n → failed .configOrder n) ∧
                  (q = none → t.loader.st = .checking ∧ t.loader.checked = true ∧ t.loader.candidate = c)))))) ∧
  (∀ (checks : List Bool) n, firstFailing checks = some n ↔
    1 ≤ n ∧ checks[n - 1]? = some false ∧ ∀ m, m < n - 1 → checks[m]? = some true) ∧
  (∀ bs, (fieldsGood bs).length = 69 ∧
    (∀ k, k < 8 → (fieldsGood bs)[k]? = some (decide (field (16 + 16 * k) 1 bs ≤ 5))) ∧
    (∀ f ∈ numericFields, (fieldsGood bs)[f.number - 1]? =
      some (decide (f.low ≤ field f.offset f.size bs ∧ field f.offset f.size bs ≤ f.high))) ∧
    (∀ j, j < 3 → let part (k : Nat) : Nat := field (210 + 5 * j + k) 1 bs
      (fieldsGood bs)[54 + j]? = some (decide (part 0 ≤ 1 ∧ part 1 ≤ 3 ∧ part 2 ≤ 1 ∧
        (part 3 = 1 ∨ part 3 = 2 ∨ part 3 = 3 ∨ part 3 = 5) ∧ part 4 ≤ 1))) ∧
    (fieldsGood bs)[60]? = some true ∧
    ∀ a, a < 8 → (fieldsGood bs)[61 + a]? = some (decide (field (232 + 3 * a) 1 bs ≤ 1))) ∧
  (∀ anchor n (ws : List Window) i, firstWindowBreak anchor n ws = some i ↔
    i < ws.length ∧ windowBreaks anchor n ws i = true ∧ ∀ j, j < i → windowBreaks anchor n ws j = false) ∧
  (∀ anchor n (ws : List Window) i w, ws[i]? = some w → (windowBreaks anchor n ws i = true ↔
    (∃ k ∈ [WindowKind.demand, .directive, .served, .guarded], ws.countP (fun v => v.kind == k) ≠ 1 ∧
      ((w.kind = k ∧ ∀ j, j < i → (ws[j]?.map Window.kind) ≠ some k) ∨
        (i = 0 ∧ ∀ v ∈ ws, v.kind ≠ k))) ∨
    w.kind ≠ .unused ∧ (w.base % 4096 ≠ 0 ∨ 2 ^ 32 < w.base + w.size ∨
      (w.base < anchor.toNat + 256 ∧ anchor.toNat < w.base + w.size) ∨
      ((w.kind = .demand ∨ w.kind = .directive ∨ w.kind = .served) ∧ w.size ≠ 4096) ∨
      (w.kind = .watch ∧ (w.size % 4096 ≠ 0 ∨ w.size < 4096 ∨ 1048576 < w.size)) ∨
      (w.kind = .guarded ∧ (w.size % 4096 ≠ 0 ∨ 16777216 < w.size ∨
        w.size < 4096 + (n * 2048 + 4095) / 4096 * 4096)) ∨
      ∃ j v, j < i ∧ ws[j]? = some v ∧ v.kind ≠ .unused ∧ v.base < w.base + w.size ∧
        w.base < v.base + v.size))) ∧
  (∀ bs, let p := parseParams bs
    (numericFields.filter fun f => f.number ∉ [19, 50, 52, 53, 58, 59, 60]).map (fun f => field f.offset f.size bs) =
      [p.freshness, p.grace, p.failLimit, p.gain.a, p.gain.b, p.pmax, p.penalty, p.emergency, p.holdPressure, p.cutout,
        p.recoveryFraction, p.derate, p.trip, p.resetTemp, p.deceleration, p.rise, p.standstillSpeed,
        p.standstillDwell, p.sensorTimeout, p.armingFloor, p.slipOn, p.slipOff, p.ratioOn, p.recoveryDwell,
        p.holdDwell, p.reapplyDwell, p.reapplyFraction, p.maxRelease, p.replyTimeout, p.missLimit, p.restoreCount,
        p.keepalive, p.releaseTimeout, p.testPressure, p.testTolerance, p.phaseTimeout, p.postCount, p.captureWindow,
        p.pressureStep, p.dynamicStep, p.slots, p.waitLimit] ∧
    [(p.emergencyDynamic, 161), (p.watchTracing, 204), (p.autoRetain, 207), (p.storeHigh, 208), (p.invert, 228)].all
      (fun x => x.1 == (field x.2 1 bs == 1)) = true ∧
    p.enableSet.toNat = field 225 2 bs ∧ (field 227 1 bs ≤ 15 → p.source.code = field 227 1 bs) ∧
    p.activation = field 229 1 bs ∧
    (∀ l, let at' (k : Nat) : Nat := field (210 + 5 * (lineCode l - 1) + k) 1 bs
      let c := p.lines.get l
      c.activeLow = (at' 0 == 1) ∧ (at' 1 ≤ 3 → c.debounce.period = [none, some 4, some 16, some 50].getD (at' 1) none) ∧
        c.repeating = (at' 2 == 1) ∧ (at' 3 ∈ [1, 2, 3, 5] → c.cls.code = at' 3) ∧ c.armedAtLoad = (at' 4 == 1)) ∧
    ∀ h : Health, p.health.get h =
      ⟨field (230 + 3 * (h.code - 1)) 2 bs, field (232 + 3 * (h.code - 1)) 1 bs == 1⟩) ∧
  (∀ bs k, k < 8 → ∃ w, (parseWindows bs)[k]? = some w ∧ w.base = field (20 + 16 * k) 4 bs ∧
    w.size = field (24 + 16 * k) 4 bs ∧ ∀ c x, (c, x) ∈ [(0, WindowKind.unused), (1, .demand), (2, .directive),
      (3, .served), (4, .guarded), (5, .watch)] → field (16 + 16 * k) 1 bs = c → w.kind = x) ∧
  ∀ p, orderChecks p = [decide (p.slipOff < p.slipOn),
    decide (p.resetTemp + 20 ≤ p.derate ∧ p.derate + 20 ≤ p.trip),
    decide (p.penalty ≤ p.pmax ∧ p.pmax ≤ p.emergency), decide (p.holdPressure ≤ p.pmax),
    decide (p.testPressure ≤ p.pmax)]

/-- CONFIG_INSTALL: the checked record comes into force; a start or a retry, or a reload that moves the store, hands the
store scan to the recorder, another reload is LOADED at once; a reload sets the supervisor back, and the slide and the
blend unit to their core-reset values, from which its one recompute starts under the new parameters (R33, R79, R114); a
reload whose conditions no longer hold is refused and changes nothing else (R30, R33). Each trigger line takes its arm
state, detector and debounce timer from the record, and a line with debounce NONE is then detected where it is found
ACTIVE (R148, R156); each attribute's status and the verdict are those of the new thresholds and kinds (R194, R196). A
reload's DSTATE entry of cause RELOAD stands ahead of the hand-off to the neighbours (R52, R57; where the lines' requests
stand: log 13, and the order of the blocks: log 18). -/
def Obligations.InstallPutsTheRecordInForce : Prop :=
  ∀ s lf, s.loader.checked = true → s.path.held = none →
    ∃ t, exec (.configInstall lf) s = .next t ∧
      let bs := beatsBytes s.loader.candidate
      let refused := s.loader.origin = .reload ∧ s.reloadRefusal.isSome = true
      let moved := geometryDiffers s (parseWindows bs) (parseParams bs) = true
      (refused → Frame (.loader :: portPieces) s t ∧ t.loader.st = .ready ∧ ResultAsked t ∧
        t.loader.result = ⟨.reloadRefused, (s.reloadRefusal.map ReloadReason.code).getD 0, some .reload⟩) ∧
      (¬refused → t.path = ⟨.active, some (parseWindows bs), none⟩ ∧ t.params = parseParams bs ∧
        t.loader.configFault = false ∧ t.loader.checked = false ∧ t.loader.candidate = [] ∧
        t.decoder.asm = s.decoder.asm.cleared ∧ t.demand.asm = s.demand.asm.cleared ∧
        t.speed = { s.speed with cutout := cutoutOf (parseParams bs) s.speed.reference } ∧
        (s.loader.origin ≠ .reload ∨ moved →
          t.loader.st = .scanning ∧ t.recorder.store = .scanning ∧ t.recorder.scan.isSome = true ∧
            t.recorder.image = List.replicate (parseParams bs).slots .unread) ∧
        (s.loader.origin = .reload → ¬moved →
          t.loader.st = .ready ∧ t.loader.result = ⟨.loaded, 0, some .reload⟩ ∧ ResultAsked t) ∧
        (∀ l, let old := s.params.lines.get l
          let new := (parseParams bs).lines.get l
          let v := s.lines.get l
          let kept := if old.activeLow = new.activeLow ∧ old.debounce = new.debounce then v.detector else .clear
          let found := new.debounce = .none ∧ v.input ≠ new.activeLow
          (t.lines.get l).input = v.input ∧
          (t.lines.get l).detector = (if found ∧ kept = .clear then .detected
            else if new.debounce = .none ∧ ¬found then .clear else kept) ∧
          (s.anyReset = false → (t.lines.get l).armed =
            (new.armedAtLoad && (new.repeating || !decide (found ∧ kept = .clear)))) ∧
          (old.debounce = new.debounce → (t.lines.get l).debounce = v.debounce) ∧
          (old.debounce ≠ new.debounce → (t.lines.get l).debounce =
            match new.debounce.period with
            | some p => .running ((s.clock.op + p) % 2 ^ 32)
            | none => .stopped)) ∧
        (∀ h, s.retention.counts.get h ≤ t.retention.counts.get h ∧
          (t.retention.exceeded.get h = true ↔ ((parseParams bs).health.get h).threshold ≠ 0 ∧
            ((parseParams bs).health.get h).threshold ≤ t.retention.counts.get h)) ∧
        VerdictShown t ∧
        (s.loader.origin = .reload → t.slide = { SlideUnit.initial with commanded := t.slide.commanded } ∧
          t.blend.targets = Six.all 0 ∧ t.blend.held = ⟨none, none⟩ ∧
          (∀ k, let temp := s.gridTemp k
            t.blend.grid.get k =
              if s.anyReset = true ∨ s.traction.st ≠ .active then .cool
              else if (parseParams bs).trip ≤ temp then .tripped
              else if (parseParams bs).derate ≤ temp then .derated else .cool) ∧
          (s.anyReset = false → (∀ k, t.blend.pressure.get k =
              if t.demand.st = .emergency then (parseParams bs).emergency else (parseParams bs).holdPressure) ∧
            t.blend.commanded = t.blend.pressure ∧ t.blend.traced.isSome = true ∧
            t.blend.handedTargets = some (Six.all 0) ∧ t.blend.handedAir = some t.blend.commanded ∧
            t.blend.handedSlide = some t.blend.commanded ∧ t.slide.commanded = some t.blend.commanded)) ∧
        (s.loader.origin = .reload → t.demand.st = .noDemand ∧ t.demand.last = none ∨ t.demand.st = .emergency) ∧
        (s.loader.origin = .reload → s.anyReset = false →
          ∃ u, Frame ([Piece.path, .params, .assembly, .demand, .speed, .health, .loader, .loadQueue, .lines, .blend,
              .slide, .directory] ++ tracePieces) { s with emitted := [] } u ∧
            u.demand = { s.demand with
              asm := s.demand.asm.cleared
              last := none
              failCount := 0
              freshness := .stopped
              grace := .stopped
              held := none
              st := .noDemand
              effective := .noDemand } ∧
            Traced [.dstate s.demand.st .noDemand .reload] s u ∧
            let hand (v : State) : State :=
              let w := blendEvent true (slideRun .exam { v with status := { v.status with demandHanded := v.demand.st } })
              let x := linksTakeDemand .state w
              if x.traction.st = w.traction.st then x else blendEvent false x
            t = arbitrate (if lf then hand (detectLines true u) else detectLines false (hand u))))

/-- RELOAD_REQUEST: in READY the first condition that fails gives its reason, whose result word is asked for, and none
begins a reload with the anchor read; in FAULT a retry begins; elsewhere the request is ignored (R24, R25, R31, R32). -/
def Obligations.ReloadRequestIsRuledOn : Prop :=
  ∀ s, 0 < s.loader.requests →
    ∃ t, exec .reloadRequest s = .next t ∧ t.loader.requests = s.loader.requests - 1 ∧
      let refused (n : Nat) : Prop :=
        t.loader.st = .ready ∧ t.loader.result = ⟨.reloadRefused, n, some .reload⟩ ∧ ResultAsked t
      let began (o : LoadOrigin) : Prop :=
        t.loader.st = .readingAnchor ∧ t.loader.origin = o ∧ t.loader.result = s.loader.result ∧
          LoadAsked t ⟨.anchor, .read s.loader.anchor 2, false⟩
      (s.loader.st = .ready →
        if s.speed.standstill ≠ .confirmed then refused 1
        else if s.demand.st = .penalty ∨ s.demand.st = .emergency then refused 2
        else if s.recorder.st ≠ .idle ∨ s.recorder.waiting.isSome = true then refused 3
        else if s.decoder.slot.isSome = true then refused 4
        else if s.retention.frozen = true then refused 5
        else began .reload) ∧
      (s.loader.st = .fault → began .retry) ∧
      (s.loader.st ≠ .ready → s.loader.st ≠ .fault →
        t.loader.st = s.loader.st ∧ t.loader.result = s.loader.result ∧ t.loader.origin = s.loader.origin)

/-! ### The demand supervisor -/

/-- DEMAND_RECORD, refused: the checks in their order with the ranges of the fields, the sequence as found, the
failed-check count, the REFUSAL entry and the refusals counted, and in LIVE or STALE, after these, the penalty that the
limit brings: its DSTATE entry, the hand-off, and then the flag, the count and the trigger (R37, R38, R40, R45, R46, R52,
R192; that the count of the refusal stands before the DSTATE entry is the model's choice between R40 and R52, log 55). -/
def Obligations.RefusedRecordCountsTowardsAPenalty : Prop :=
  (∀ r : CompletedRecord, let bs := beatsBytes r.beats
    if r.torn = true ∨ r.present.all id = false then r.judge = .inr .torn
    else if field 60 4 bs ≠ crc32 (slice 0 60 bs) then r.judge = .inr .check
    else r.judge = demandOfBytes r.pmax bs) ∧
    (∀ r : CompletedRecord, (r.present[0]? = some true → r.sequenceFound = field 0 2 (beatsBytes r.beats)) ∧
      (r.present[0]? ≠ some true → r.sequenceFound = 0)) ∧
    (∀ pmax bs, let word (k : Nat) : Nat := field k 2 bs
      let byte (k : Nat) : Nat := field k 1 bs
      let policy : Policy := if byte 3 = 0 then .blended else .airOnly
      let inRange := word 4 ≤ 720 ∧ (byte 2 = 1 → word 4 = 0) ∧ word 6 ≤ pmax ∧ word 8 ≤ pmax ∧ byte 3 ≤ 1 ∧
        byte 10 < 2 ^ 6
      let taken (m : DemandMode) : DemandRecord ⊕ RefusalReason :=
        .inl ⟨word 0, ⟨m, word 4, ⟨word 6, word 8⟩, policy, BitVec.ofNat 8 (byte 10)⟩⟩
      (byte 2 = 0 ∨ 3 < byte 2 → demandOfBytes pmax bs = .inr .mode) ∧
      (1 ≤ byte 2 → byte 2 ≤ 3 → ¬inRange → demandOfBytes pmax bs = .inr .range) ∧
      (inRange → (byte 2 = 1 → demandOfBytes pmax bs = taken .release) ∧
        (byte 2 = 2 → demandOfBytes pmax bs = taken .service) ∧
        (byte 2 = 3 → demandOfBytes pmax bs = taken .emergency))) ∧
    ∀ s c rest reason, s.demand.inbox = c :: rest → c.judge = .inr reason →
      ∃ t, exec .demandRecord s = .next t ∧
        let n := min 255 (s.demand.failCount + 1)
        let limit := (s.demand.st = .live ∨ s.demand.st = .stale) ∧ s.params.failLimit ≤ n
        (s.demand.failCount ≤ 255 → ¬limit → t.demand = { s.demand with inbox := rest, failCount := n } ∧
          (s.anyReset = false → ⟨.refusal reason c.sequenceFound, s.clock.op⟩ ∈ t.recorder.ring ∧
            t.retention.counts.get .demandRefusals = satAdd 65535 (s.retention.counts.get .demandRefusals))) ∧
        (s.demand.failCount ≤ 255 → limit → ∀ p, (∀ r, s.demand.last = some r → p = r.fields.independent) →
          (s.demand.last = none → p = ⟨0, 0⟩) →
          t.demand = { s.demand with
            inbox := rest
            failCount := n
            freshness := .stopped
            grace := .stopped
            penaltyLatch := true
            held := some p
            st := .penalty
            effective := ⟨none, ⟨.service, 0, p, .airOnly, 0⟩⟩ } ∧
          (s.anyReset = false → flagSet t.status.flags .penalty = true ∧
            ∃ u, Frame (.demand :: .emitted :: requestPieces) s u ∧
              u.demand = { s.demand with inbox := rest, failCount := n } ∧
              ⟨.refusal reason c.sequenceFound, s.clock.op⟩ ∈ u.recorder.ring ∧
              u.retention.counts.get .demandRefusals = satAdd 65535 (s.retention.counts.get .demandRefusals) ∧
              (∀ h, h ≠ .demandRefusals → u.retention.counts.get h = s.retention.counts.get h) ∧
              ∃ v w, Frame (.demand :: tracePieces) u v ∧ v.demand = t.demand ∧
                Traced [.dstate s.demand.st .penalty .penaltyChecks] u v ∧
                PenaltyReported .penaltyChecks (handDemand .state v) w ∧ t = arbitrate w))

/-- DEMAND_RECORD, accepted: a duplicate changes nothing; a RELEASE or SERVICE record makes or keeps the state LIVE
with its fields effective, and in PENALTY or EMERGENCY is only kept; an EMERGENCY record latches the emergency
(R39, R41, R42, R47, R49, R50). The DEMAND entry with its gap mark where one is due and then the DSTATE entry of the change
stand ahead of the hand-off; an EMERGENCY record's trigger comes last (R41, R47, R51, R52). -/
def Obligations.AcceptedRecordSetsTheDemand : Prop :=
  ∀ s c rest r, s.demand.inbox = c :: rest → c.judge = .inl r →
    ∃ t, exec .demandRecord s = .next t ∧
      let fresh := ∀ l, s.demand.last = some l → l.sequence ≠ r.sequence
      let kept := { s.demand with inbox := rest, last := some r, failCount := 0 }
      let gap : Bool := match s.demand.last with
        | some l => r.sequence != (l.sequence + 1) % 65536
        | none => false
      let due : Bool := match s.demand.last with
        | some l => gap || l.fields != r.fields
        | none => true
      let change : List TraceKind :=
        if r.fields.mode = .emergency then
          if s.demand.st = .emergency then [] else [.dstate s.demand.st .emergency .emergencyDemand]
        else match s.demand.st with
          | .noDemand => [.dstate .noDemand .live .firstRecord]
          | .stale => [.dstate .stale .live .record]
          | .live | .penalty | .emergency => []
      let mark : HandMark := match s.demand.st, s.demand.last with
        | .live, some l => if l.fields = r.fields then .sequenceAlone else .fields
        | .live, none => .fields
        | _, _ => .state
      (¬fresh → t.demand = { s.demand with inbox := rest } ∧ Frame (.demand :: portPieces) s t) ∧
      (fresh → r.fields.mode ≠ .emergency →
        (s.demand.st = .noDemand ∨ s.demand.st = .live ∨ s.demand.st = .stale →
          t.demand = { kept with
            grace := .stopped
            freshness := .running ((s.clock.op + s.params.freshness) % 2 ^ 32)
            st := .live
            effective := ⟨some r.sequence, r.fields⟩ }) ∧
        (s.demand.st = .penalty ∨ s.demand.st = .emergency → t.demand = kept)) ∧
      (fresh → r.fields.mode = .emergency →
        (s.demand.st = .emergency → t.demand = kept) ∧
        (s.demand.st ≠ .emergency →
          t.demand = { kept with
            freshness := .stopped
            grace := .stopped
            emergencyLatch := true
            st := .emergency
            effective := ⟨none, ⟨.emergency, 0, ⟨0, 0⟩, .blended, 0⟩⟩ } ∧
          t.vent = true ∧ (s.anyReset = false → flagSet t.status.flags .emergency = true))) ∧
      (fresh → s.anyReset = false →
        ∃ u, Frame (.demand :: .emitted :: tracePieces) s u ∧ u.demand = t.demand ∧
          Traced ((if due then [.demand r gap] else []) ++ change) s u ∧
          (r.fields.mode ≠ .emergency → s.demand.st = .noDemand ∨ s.demand.st = .live ∨ s.demand.st = .stale →
            t = arbitrate (handDemand mark u)) ∧
          (s.demand.st = .emergency ∨ r.fields.mode ≠ .emergency ∧ s.demand.st = .penalty → t = arbitrate u) ∧
          (r.fields.mode = .emergency → s.demand.st ≠ .emergency →
            ∃ v w, Frame (.flags :: tracePieces) (handDemand .state u) v ∧
              Traced [.trigger .emergencyDemand 1 true] (handDemand .state u) v ∧
              Disposed (stampNow s .emergencyDemand .serious) v w ∧ t = arbitrate w))

/-- FRESHNESS_TIMER_EXPIRY and GRACE_TIMER_EXPIRY: LIVE goes to STALE with the grace timer, or with a grace period of
0 ms to PENALTY in the same event; STALE goes to PENALTY (R43 to R46). The DSTATE entry of each change stands ahead of the
hand-off; after it come the flags, the count in PENALTIES and last the PENALTY_STALE trigger (R44, R46, R51, R52). -/
def Obligations.ExpiryOfTheDemandBringsThePenalty : Prop :=
  ∀ s r, s.demand.last = some r →
    let penalty := { s.demand with
      freshness := .stopped
      grace := .stopped
      penaltyLatch := true
      held := some r.fields.independent
      st := .penalty
      effective := ⟨none, ⟨.service, 0, r.fields.independent, .airOnly, 0⟩⟩ }
    let handed (ks : List TraceKind) (t u : State) : Prop :=
      ∃ v, Frame (.demand :: tracePieces) { s with emitted := [] } v ∧ v.demand = t.demand ∧ Traced ks s v ∧
        u = handDemand .state v
    (s.demand.st = .live → s.demand.freshness.isRunning = true →
      ∃ t, exec .freshnessTimerExpiry s = .next t ∧
        (s.params.grace ≠ 0 → t.demand = { s.demand with
          freshness := .stopped
          grace := .running ((s.clock.op + s.params.grace) % 2 ^ 32)
          st := .stale
          effective := ⟨some r.sequence, r.fields⟩ }) ∧
        (s.params.grace = 0 → t.demand = penalty ∧
          (s.anyReset = false → flagSet t.status.flags .penalty = true)) ∧
        (s.anyReset = false → flagSet t.status.flags .demandStale = true) ∧
        (s.anyReset = false → s.params.grace ≠ 0 →
          ∃ u v, handed [.dstate .live .stale .freshness] t u ∧ Flagged .demandStale u v ∧ t = arbitrate v) ∧
        (s.anyReset = false → s.params.grace = 0 →
          ∃ u v w, handed [.dstate .live .stale .freshness, .dstate .stale .penalty .penaltyStale] t u ∧
            Flagged .demandStale u v ∧ PenaltyReported .penaltyStale v w ∧ t = arbitrate w)) ∧
    (s.demand.st = .stale → s.demand.grace.isRunning = true →
      ∃ t, exec .graceTimerExpiry s = .next t ∧ t.demand = penalty ∧
        (s.anyReset = false → flagSet t.status.flags .penalty = true ∧
          ∃ u v, handed [.dstate .stale .penalty .penaltyStale] t u ∧ PenaltyReported .penaltyStale u v ∧
            t = arbitrate v))

/-- RESET_PENALTY and RESET_EMERGENCY: at confirmed standstill the latch is cleared, to NO_DEMAND, or from EMERGENCY to
a penalty still latched; otherwise the answer is STATE and the demand stands (R53, R54). The DSTATE entry of the change
stands ahead of the hand-off to the neighbours (R51, R52); that DONE follows the whole hand-off is the model's choice
(log 41). -/
def Obligations.LatchesAreResetOnlyAtStandstill : Prop :=
  let handed (k : TraceKind) (c : DirectiveCode) (s t : State) : Prop :=
    ∃ u, Frame (.demand :: tracePieces) { s with emitted := [] } u ∧ u.demand = t.demand ∧ Traced [k] s u ∧
      t = arbitrate (finish c .done (handDemand .state u))
  (∀ s x, Awaits s .resetPenalty x →
    ∃ t, exec .resetPenalty s = .next t ∧
      if s.demand.st = .penalty ∧ s.speed.standstill = .confirmed then
        Answered t x .done ∧ t.demand.st = .noDemand ∧ t.demand.penaltyLatch = false ∧ t.demand.last = none ∧
          t.demand.failCount = 0 ∧ t.demand.held = none ∧ t.demand.effective = .noDemand ∧
          (s.anyReset = false → handed (.dstate .penalty .noDemand .resetPenalty) .resetPenalty s t)
      else Answered t x .state ∧ t.demand = s.demand) ∧
    ∀ s x, Awaits s .resetEmergency x →
      ∃ t, exec .resetEmergency s = .next t ∧
        if s.demand.st = .emergency ∧ s.speed.standstill = .confirmed then
          Answered t x .done ∧ t.demand.emergencyLatch = false ∧ t.vent = false ∧
            (s.demand.penaltyLatch = true → t.demand.st = .penalty ∧
              t.demand.effective = ⟨none, ⟨.service, 0, s.demand.held.getD ⟨0, 0⟩, .airOnly, 0⟩⟩) ∧
            (s.demand.penaltyLatch = false → t.demand.st = .noDemand ∧ t.demand.last = none) ∧
            (s.anyReset = false → handed (.dstate .emergency
              (if s.demand.penaltyLatch = true then .penalty else .noDemand) .resetEmergency) .resetEmergency s t)
        else Answered t x .state ∧ t.demand = s.demand

/-! ### The blend unit -/

/-- R73: at each evaluation a grid moves as the table gives, and makes at most that one change. R74: what a change
reports: the GRID entry, the GRID flag and the count at DERATED and TRIPPED, and at TRIPPED the ADVISORY trigger. -/
def Obligations.GridMovesFollowTheTable : Prop :=
  ∀ s k, let p := s.params
    let temp := s.gridTemp k
    let new := (evalGrid k s).blend.grid.get k
    ((s.blend.grid.get k = .cool ∨ s.blend.grid.get k = .derated) →
      new = if p.trip ≤ temp then .tripped else if p.derate ≤ temp then .derated else .cool) ∧
    (s.blend.grid.get k = .tripped → new = if temp ≤ p.resetTemp then .cool else .tripped) ∧
    (∀ j, j ≠ k → (evalGrid k s).blend.grid.get j = s.blend.grid.get j) ∧
    (new = s.blend.grid.get k → evalGrid k s = s) ∧
    (new ≠ s.blend.grid.get k → s.anyReset = false →
      ∃ u, Frame (.blend :: tracePieces) s u ∧ u.blend = { s.blend with grid := s.blend.grid.set k new } ∧
        Traced [.grid k (s.blend.grid.get k) new temp] s u ∧
        (new = .cool → evalGrid k s = u) ∧
        (new = .derated → ∃ v, Flagged .grid u v ∧ evalGrid k s = countHealth .gridDerates v) ∧
        (new = .tripped → ∃ v, Flagged .grid u v ∧
          Raised (.gridTrip k) .advisory (countHealth .gridTrips v) (evalGrid k s)))

/-- R65: the recovery fraction. -/
def Obligations.RecoveringAxleHasAReducedTarget : Prop :=
  ∀ (s : State) (x : Axle), let whole := s.derated x (min (s.base x) (s.capability x))
    let target := s.blendValues.targets.get x
    (s.slide.axles.get x = .sliding → target = 0) ∧
    (s.zeroed x = false → s.slide.axles.get x = .recovering →
      target = whole * s.params.recoveryFraction / 100 ∧ (s.params.recoveryFraction = 100 → target = whole) ∧
        (s.params.recoveryFraction ≤ 100 → target ≤ whole)) ∧
    (s.zeroed x = false → s.slide.axles.get x = .adhering → target = whole)

/-- A recompute sets the targets and the pressures of R62 to R70: targets zeroed, or the lesser of base and capability
with derating and the recovery fraction; makeup, blend pressure by the demand state, and commanded pressure by the truck's
slide state. Its BLEND entry is due by the trace steps and names the highest limiting reason (R75, R76); its results are
handed where they differ from those last handed, in the order of log 44 (R61); the grids are evaluated first where the
event asks for it (R60). The recomputes of an event (R59; that one is made again until no channel state and no slide
state moves, eight times at most, is log 33's reading), and the events of the demand hand-off (in log 14's order), the
reports, the samples, the loss of the speed link and the slide expiries that make one. -/
def Obligations.RecomputeFollowsTheBlendRules : Prop :=
  (∀ s, (recompute false s).blend.targets = s.blendValues.targets ∧
    (recompute false s).blend.pressure = s.blendValues.pressure ∧
    (recompute false s).blend.commanded = s.blendValues.commanded ∧
    (recompute false s).blend.held = s.blendValues.held ∧
    (∀ x, (s.traction.st ≠ .active ∨ s.demand.effective.fields.policy = .airOnly ∨
        s.slide.axles.get x = .unsensed ∨ s.slide.axles.get x = .sliding ∨ s.speed.link ≠ .active ∨
        (∃ r, s.speed.reference = some r ∧ r < s.params.cutout) ∨ s.blend.grid.get (truckOf x) = .tripped ∨
        s.demand.effective.fields.inhibit.getLsbD (axleCode x - 1) = true ∨ s.demand.st = .noDemand ∨
        s.demand.st = .penalty ∨ (s.demand.st = .emergency ∧ s.params.emergencyDynamic = false)) ↔
      s.zeroed x = true) ∧
    (∀ x, s.zeroed x = true → s.blendValues.targets.get x = 0) ∧
    (∀ x, s.zeroed x = false →
      let capability := match s.traction.last with
        | some d => if d.mode = .fault then 0 else d.capability.get x
        | none => 0
      let base := if s.demand.st = .emergency then capability else (s.demand.effective.fields.effort + 5) / 6
      let temp := (s.traction.last.map fun d => d.temperature.get (truckOf x)).getD 0
      let whole := if s.blend.grid.get (truckOf x) = .derated then
          min base capability * (s.params.trip - temp) / (s.params.trip - s.params.derate)
        else min base capability
      s.blendValues.targets.get x =
        if s.slide.axles.get x = .recovering then whole * s.params.recoveryFraction / 100 else whole) ∧
    (∀ x d, s.traction.last = some d → s.params.recoveryFraction ≤ 100 →
      (s.blend.grid.get (truckOf x) = .derated → s.params.derate ≤ s.gridTemp (truckOf x)) →
      s.blendValues.targets.get x ≤ d.capability.get x) ∧
    (∀ x, s.traction.st ≠ .active → s.achieved x = 0) ∧
    (∀ x d, s.traction.st = .active → s.traction.last = some d → s.achieved x = d.achieved.get x) ∧
    ∀ k, let v := s.blendValues
      let e := s.demand.effective.fields
      let credit := ((axlesOf k).map fun x => min (s.achieved x) (v.targets.get x)).sum
      let makeup := (e.effort + 1) / 2 - credit
      ((s.demand.st = .live ∨ s.demand.st = .stale) → 0 < s.params.gain.get k →
        v.pressure.get k = min s.params.pmax
          (max ((makeup * 100 + s.params.gain.get k - 1) / s.params.gain.get k) (e.independent.get k))) ∧
      (s.demand.st = .noDemand → v.pressure.get k = s.params.holdPressure) ∧
      (s.demand.st = .penalty → v.pressure.get k = max s.params.penalty (e.independent.get k)) ∧
      (s.demand.st = .emergency → v.pressure.get k = s.params.emergency) ∧
      ((s.slide.trucks.get k = .apply ∨ s.slide.trucks.get k = .fault) → v.commanded.get k = v.pressure.get k) ∧
      (s.slide.trucks.get k = .dump → v.commanded.get k = 0) ∧
      (s.slide.trucks.get k = .hold → ∃ h, v.held.get k = some h ∧
        h = (s.blend.held.get k).getD ((s.air.last.getD ⟨0, 0⟩).get k) ∧
        v.commanded.get k = min h (v.pressure.get k)) ∧
      (s.slide.trucks.get k = .reapply →
        v.commanded.get k = (v.pressure.get k * s.params.reapplyFraction + 99) / 100) ∧
      (s.slide.trucks.get k ≠ .hold → v.held.get k = none)) ∧
  (∀ s, s.anyReset = false →
    let v := s.blendValues
    let sum := v.targets.toList.sum
    let due : Prop := ∀ p n, s.blend.traced = some (p, n) →
      (∃ k, s.params.pressureStep ≤ (v.commanded.get k - p.get k) + (p.get k - v.commanded.get k)) ∨
        s.params.dynamicStep ≤ (sum - n) + (n - sum)
    ∃ u, recompute false s = handSlide (handAir (handTargets u)) ∧
      (due → Frame (.blend :: tracePieces) s u ∧ u.blend = { v with traced := some (v.commanded, sum) } ∧
        Traced [.blend v.commanded sum s.limiting] s u) ∧
      (¬due → u = { s with blend := v })) ∧
  (∀ s : State, let slide : Prop := (∃ x, s.slide.axles.get x = .sliding ∨ s.slide.axles.get x = .recovering) ∨
      ∃ k, s.slide.trucks.get k = .dump ∨ s.slide.trucks.get k = .hold ∨ s.slide.trucks.get k = .reapply
    let grid : Prop := ∃ k, s.blend.grid.get k = .tripped ∨
      (s.blend.grid.get k = .derated ∧ ∃ d, s.traction.last = some d ∧ s.params.derate < d.temperature.get k)
    let capability : Prop := s.traction.st ≠ .active ∨ (∃ d, s.traction.last = some d ∧ d.mode = .fault) ∨
      ∃ x, s.zeroed x = false ∧ s.capability x < s.base x
    let cutout : Prop := s.speed.link ≠ .active ∨ (∃ x, s.slide.axles.get x = .unsensed) ∨
      ∃ r, s.speed.reference = some r ∧ r < s.params.cutout
    let policy : Prop := s.demand.st = .noDemand ∨ s.demand.st = .penalty ∨
      (s.demand.st = .emergency ∧ s.params.emergencyDynamic = false) ∨
      s.demand.effective.fields.policy = .airOnly ∨
      ∃ x, s.demand.effective.fields.inhibit.getLsbD (axleCode x - 1) = true
    (slide → s.limiting = .slide) ∧ (¬slide → grid → s.limiting = .grid) ∧
      (¬slide → ¬grid → capability → s.limiting = .capability) ∧
      (¬slide → ¬grid → ¬capability → cutout → s.limiting = .cutout) ∧
      (¬slide → ¬grid → ¬capability → ¬cutout → policy → s.limiting = .policy) ∧
      (¬slide → ¬grid → ¬capability → ¬cutout → ¬policy → s.limiting = .none)) ∧
  (∀ s, let v := s.blendValues
    let t := recompute false s
    t.blend.handedTargets = some v.targets ∧ t.blend.handedAir = some v.commanded ∧
      t.blend.handedSlide = some v.commanded ∧
      t.traction.values = (if s.blend.handedTargets = some v.targets then s.traction.values else some v.targets) ∧
      t.air.values = (if s.blend.handedAir = some v.commanded then s.air.values else some v.commanded) ∧
      t.slide.commanded = (if s.blend.handedSlide = some v.commanded then s.slide.commanded else some v.commanded) ∧
      (s.blend.handedTargets ≠ some v.targets → s.traction.values ≠ some v.targets → s.traction.st ≠ .releasing →
        s.traction.st ≠ .released → .frame .traction (dynCommandFrame s.traction.sendSeq v.targets) ∈ t.emitted) ∧
      (s.blend.handedAir ≠ some v.commanded → s.air.values ≠ some v.commanded → s.air.source = .blend →
        .frame .air (airCommandFrame s.air.sendSeq v.commanded) ∈ t.emitted)) ∧
  (∀ s, recompute true s = recompute false
    (if s.traction.st = .active then evalGrid .b (evalGrid .a s) else s)) ∧
  (∀ grids s, (s.anyReset = true → blendEvent grids s = s) ∧
    (s.anyReset = false → let t := recompute grids s
      blendEvent grids s = if t.traction.st = s.traction.st ∧ t.slide.axles = s.slide.axles ∧
        t.slide.trucks = s.slide.trucks then t else recomputeLoop 7 false t)) ∧
  (∀ mark s, let v := slideRun .exam { s with status := { s.status with demandHanded := s.demand.st } }
    let w := blendEvent false v
    let t := linksTakeDemand mark w
    handDemand mark s = if t.traction.st = w.traction.st then t else blendEvent false t) ∧
  (∀ s bytes echo d front e, s.anyReset = false → s.rx.traction = [] → OneFrame bytes →
    judgeFrame .traction bytes = some (.dynReport echo d) → s.traction.list = front ++ [e] →
    (∀ y ∈ front, y.sequence ≠ echo) → e.sequence = echo →
    exec (.dynReport bytes) s = .next (arbitrate (blendEvent true (takeDynReport echo d { s with emitted := [] })))) ∧
  (∀ s bytes echo p front e, s.anyReset = false → s.rx.air = [] → OneFrame bytes →
    judgeFrame .air bytes = some (.airReport echo p) → s.air.list = front ++ [e] →
    (∀ y ∈ front, y.sequence ≠ echo) → e.sequence = echo →
    exec (.airReport bytes) s = .next (arbitrate (blendEvent false (takeAirReport echo p { s with emitted := [] })))) ∧
  (∀ s bytes n tm v, s.anyReset = false → s.rx.speed = [] → OneFrame bytes →
    judgeFrame .speed bytes = some (.speedSample n tm v) → s.speed.number ≠ some n →
    ∃ w, Frame (.speed :: .slide :: .free :: .emitted :: requestPieces) s w ∧
      w.slide = slideNext { SlideEvent.exam with sample := true } { s with speed := w.speed } ∧
      let u := if s.speed.standstill = .confirmed ∧ w.speed.standstill ≠ .confirmed then
        linksLoseStandstill (w.speed.standstill == .moving) w else w
      let still : Prop := s.speed.link = .active ∧ w.speed.cutout = s.speed.cutout ∧
        w.slide.axles = s.slide.axles ∧ w.slide.trucks = s.slide.trucks ∧ u.traction.st = s.traction.st
      (¬still → exec (.speedSample bytes) s = .next (arbitrate (blendEvent false u))) ∧
        (still → exec (.speedSample bytes) s = .next (arbitrate u))) ∧
  (∀ s, s.speed.sensor.isRunning = true → s.speed.link ≠ .lost →
    ∃ w, Frame (.speed :: .slide :: .emitted :: requestPieces) s w ∧
      w.slide = slideNext { SlideEvent.exam with lost := true } { s with speed := w.speed } ∧
      let u := if s.speed.standstill = .confirmed then linksLoseStandstill false w else w
      exec .sensorTimerExpiry s = .next (arbitrate (trigger .sensorLost (setFlag .sensorLost (blendEvent false u))))) ∧
  let acts (c : Instr) (e : SlideEvent) (s : State) : Prop :=
    let u := slideRun e { s with emitted := [] }
    u.slide = slideNext e s ∧ exec c s = .next (arbitrate
      (if u.slide.axles = s.slide.axles ∧ u.slide.trucks = s.slide.trucks then u else blendEvent false u))
  (∀ s x, (s.slide.recovery.get x).isRunning = true →
    acts (.recoveryDwellExpiry x) { SlideEvent.quiet with recovery := some x } s) ∧
  ∀ s k, ((s.slide.hold.get k).isRunning = true →
      acts (.holdDwellExpiry k) { SlideEvent.quiet with hold := some k } s) ∧
    ((s.slide.reapply.get k).isRunning = true →
      acts (.reapplyDwellExpiry k) { SlideEvent.quiet with reapply := some k } s) ∧
    ((s.slide.release.get k).isRunning = true →
      acts (.releaseTimerExpiry k) { SlideEvent.quiet with release := some k } s)

/-! ### The speed and slide unit -/

/-- SPEED_SAMPLE: a good sample sets the link ACTIVE, its number and time, the axles' speeds and slips, the cutout
mark and the standstill state with its dwell timer, which starts at the entry to DWELLING, runs on there and is stopped
elsewhere; a duplicate changes nothing (R81 to R84, R86, R89 to R91). The CHANNEL entry of the link's entry to ACTIVE stands
ahead of the hand-off, in which the slide unit moves and reports, the link unit hears of a loss of standstill, and one
recompute follows where anything has changed (R86, R90, R92). -/
def Obligations.SpeedSampleIsInstalled : Prop :=
  ∀ s bytes n tm v, s.anyReset = false → s.rx.speed = [] → OneFrame bytes →
    judgeFrame .speed bytes = some (.speedSample n tm v) →
    ∃ t, exec (.speedSample bytes) s = .next t ∧
      (s.speed.number = some n → Frame portPieces s t) ∧
      (s.speed.number ≠ some n → t.rx.speed = [] ∧ t.speed.link = .active ∧ t.speed.number = some n ∧
        t.speed.time = some tm ∧
        t.speed.sensor = .running ((s.clock.op + s.params.sensorTimeout) % 2 ^ 32) ∧
        (∀ x, t.speed.axles.get x = if v.get x ≤ 1600 then .speed (v.get x) else .invalid) ∧
        (∀ x r, t.speed.reference = some r →
          t.speed.slips.get x = if v.get x ≤ 1600 then some (r - v.get x) else none) ∧
        (∀ r, t.speed.reference = some r →
          t.speed.cutout = if r < s.params.cutout then .below else .atOrAbove) ∧
        (∀ x r, v.get x ≤ 1600 → t.speed.reference = some r →
          t.speed.standstill = if s.params.standstillSpeed ≤ r then .moving
            else if s.speed.standstill = .confirmed then .confirmed else .dwelling) ∧
        (∀ x r, v.get x ≤ 1600 → t.speed.reference = some r →
          t.speed.dwell = if s.params.standstillSpeed ≤ r ∨ s.speed.standstill = .confirmed then .stopped
            else if s.speed.standstill = .dwelling then s.speed.dwell
            else .running ((s.clock.op + s.params.standstillDwell * 1000) % 2 ^ 32)) ∧
        ((∀ x, 1600 < v.get x) → t.speed.reference = s.speed.reference ∧ t.speed.standstill = .unknown ∧
          t.speed.dwell = .stopped) ∧
        ∃ u w, Frame (.speed :: .free :: tracePieces) { s with emitted := [] } u ∧ u.speed = t.speed ∧
          Traced (if s.speed.link = .active then [] else [.channel .speed (.stateChange 1)]) s u ∧
          SlideReported (slideNext { SlideEvent.exam with sample := true } u) u w ∧
          let x := if s.speed.standstill = .confirmed ∧ u.speed.standstill ≠ .confirmed then
            linksLoseStandstill (u.speed.standstill == .moving) w else w
          let still := s.speed.link = .active ∧ u.speed.cutout = s.speed.cutout ∧
            w.slide.axles = s.slide.axles ∧ w.slide.trucks = s.slide.trucks ∧ x.traction.st = s.traction.st
          t = arbitrate (if still then x else blendEvent false x))

/-- SPEED_SAMPLE: the reference goes to the fastest valid speed, at a restart at once and else within the rise and the
deceleration limit with the remainder carried (R82, R87, R88); after an UNKNOWN reference it is a free value up to
160.0 km/h (the model's own, log 16). -/
def Obligations.ReferenceKeepsItsLimits : Prop :=
  ∀ s bytes n tm v x, s.anyReset = false → s.rx.speed = [] → OneFrame bytes →
    judgeFrame .speed bytes = some (.speedSample n tm v) → s.speed.number ≠ some n →
    v.get x ≤ 1600 → (∀ y, v.get y ≤ 1600 → v.get y ≤ v.get x) →
    ∃ t, exec (.speedSample bytes) s = .next t ∧
      let c := v.get x
      (s.speed.time = none → t.speed.reference = some c ∧ t.speed.remainder = 0) ∧
      ∀ last, s.speed.time = some last →
        let d := (tm + 65536 - last) % 65536
        (d = 0 ∨ 1000 < d → t.speed.reference = some c ∧ t.speed.remainder = 0) ∧
        (1 ≤ d → d ≤ 1000 →
          (s.speed.reference = none → ∃ w, w ≤ 1600 ∧ t.speed.reference = some w) ∧
          ∀ r, s.speed.reference = some r →
            let up := s.params.rise * d + if s.speed.direction = .rise then s.speed.remainder else 0
            let down := s.params.deceleration * d + if s.speed.direction = .fall then s.speed.remainder else 0
            (r < c → c ≤ r + up / 1000 → t.speed.reference = some c ∧ t.speed.remainder = 0) ∧
            (r + up / 1000 < c → t.speed.reference = some (r + up / 1000) ∧ t.speed.remainder = up % 1000 ∧
              t.speed.direction = .rise) ∧
            (c < r → r ≤ c + down / 1000 → t.speed.reference = some c ∧ t.speed.remainder = 0) ∧
            (c + down / 1000 < r → t.speed.reference = some (r - down / 1000) ∧
              t.speed.remainder = down % 1000 ∧ t.speed.direction = .fall) ∧
            (r = c → t.speed.reference = some c ∧ t.speed.remainder = 0))

/-- SENSOR_TIMER_EXPIRY and STANDSTILL_DWELL_EXPIRY: the speed link is LOST with no speeds, its reference kept and
SENSOR_LOST set, every axle is UNSENSED and slide control disarmed; standstill is CONFIRMED, and no truck stays in FAULT
(R84, R85, R91, R99, R109, R112). The loss makes in this order the CHANNEL entry, the hand-offs with the slide unit's
reports, the flag and the SENSOR_LOST trigger, which is disposed of (R85). -/
def Obligations.SpeedTimersActAtExpiry : Prop :=
  (∀ s, s.speed.sensor.isRunning = true →
    ∃ t, exec .sensorTimerExpiry s = .next t ∧
      t.speed = { s.speed with
        link := .lost
        sensor := .stopped
        axles := Six.all .none
        slips := Six.all none
        remainder := 0
        direction := .none
        standstill := .unknown
        dwell := .stopped } ∧
      (∀ x, t.slide.axles.get x = .unsensed ∧ t.slide.recovery.get x = .stopped) ∧ t.slide.armed = false ∧
      (s.slide.armed = true → ∀ k, t.slide.trucks.get k = if s.slide.trucks.get k = .fault then .fault else .apply) ∧
      (s.slide.armed = true → ∀ k,
        s.slide.trucks.get k = .dump ∨ s.slide.trucks.get k = .hold ∨ s.slide.trucks.get k = .reapply →
        t.slide.hold.get k = .stopped ∧ t.slide.reapply.get k = .stopped ∧ t.slide.release.get k = .stopped) ∧
      (s.anyReset = false → flagSet t.status.flags .sensorLost = true) ∧
      (s.anyReset = false → s.speed.link ≠ .lost →
        ∃ u v w x, Frame (.speed :: tracePieces) { s with emitted := [] } u ∧ u.speed = t.speed ∧
          Traced [.channel .speed (.stateChange 2)] s u ∧
          SlideReported (slideNext { SlideEvent.exam with lost := true } u) u v ∧
          Flagged .sensorLost
            (blendEvent false (if s.speed.standstill = .confirmed then linksLoseStandstill false v else v)) w ∧
          Raised .sensorLost .advisory w x ∧ t = arbitrate x)) ∧
    ∀ s, s.speed.dwell.isRunning = true → s.speed.standstill = .dwelling →
      ∃ t, exec .standstillDwellExpiry s = .next t ∧
        t.speed = { s.speed with standstill := .confirmed, dwell := .stopped } ∧
        (∀ k, t.slide.trucks.get k ≠ .fault) ∧
        (s.anyReset = false → let b : State := { s with speed := t.speed, emitted := [] }
          ∃ u, SlideReported (slideNext { SlideEvent.quiet with confirmed := true } b) b u ∧
            t = arbitrate (if u.slide.axles = s.slide.axles ∧ u.slide.trucks = s.slide.trucks then u
              else blendEvent false u))

/-- The moves of the slide unit in an event: an axle's into and out of UNSENSED by its validity (R99), then arming, by the
conditions of R96, and disarming with what it brings back (R97), then an axle's by the slide condition at a sample while
armed, in the event that arms as in any other (R98, R100, R101), and a truck's by the sliding of its axles (R104 to R106).
In which events arming is examined is R97's list (log 35). What an event moves the unit reports: the AXLE and then the
TRUCK entries, the counts, SLIDE at every entry to DUMP, SLIDE_FAULT and the SLIDE_TIMEOUT trigger at FAULT (R102; truck A
before truck B in each step, log 48). -/
def Obligations.SlideMovesFollowTheTables : Prop :=
  (∀ e s, s.anyReset = false → SlideReported (slideNext e s) s (slideRun e s)) ∧
  (∀ e s x, let a := s.slide.axles.get x
    let new := (slideNext e s).axles.get x
    let timer := (slideNext e s).recovery.get x
    let valid := (s.speed.axles.get x).valid = true
    let lost := e.lost = true ∨ (e.sample = true ∧ ¬valid)
    (lost → new = .unsensed ∧ timer = .stopped) ∧
    (¬lost → a = .unsensed → timer = .stopped ∧ new = if e.sample = true then .adhering else .unsensed) ∧
    (¬lost → s.slide.armed = true → (slideNext e s).armed = false → a ≠ .unsensed →
      new = .adhering ∧ timer = .stopped) ∧
    (¬lost → e.sample = true → (slideNext e s).armed = true → ∀ slip r, s.speed.slips.get x = some slip →
      s.speed.reference = some r →
      let slides := s.params.slipOn ≤ slip ∨ s.params.ratioOn * r ≤ slip * 100
      (a = .adhering → (slides → new = .sliding) ∧ (¬slides → new = .adhering)) ∧
      (a = .sliding → (slip < s.params.slipOff → new = .recovering ∧
          timer = .running ((s.clock.op + s.params.recoveryDwell) % 2 ^ 32)) ∧
        (¬slip < s.params.slipOff → new = .sliding)) ∧
      (a = .recovering → (slides → new = .sliding ∧ timer = .stopped) ∧
        (¬slides → new = .recovering ∧ timer = s.slide.recovery.get x)))) ∧
    (∀ e s, let valid (x : Axle) := (s.speed.axles.get x).valid = true
      let sensed (x : Axle) := e.lost = false ∧ (e.sample = true → valid x) ∧
        (e.sample = false → s.slide.axles.get x ≠ .unsensed)
      let d := s.demand
      let braking := ((d.st = .live ∨ d.st = .stale) ∧ 0 < d.effective.fields.effort) ∨ d.st = .penalty ∨
        d.st = .emergency ∨ (∃ p k, s.slide.commanded = some p ∧ s.params.holdPressure < p.get k) ∨
        ∃ k, s.slide.trucks.get k = .dump ∨ s.slide.trucks.get k = .hold ∨ s.slide.trucks.get k = .reapply
      (e.arming = false → (slideNext e s).armed = s.slide.armed) ∧
        (e.arming = true → ((slideNext e s).armed = true ↔ s.speed.link = .active ∧
          (∃ r, s.speed.reference = some r ∧ s.params.armingFloor ≤ r) ∧ (∃ x, sensed x) ∧ braking))) ∧
    (∀ e s k, s.slide.armed = true → (slideNext e s).armed = false →
      let old := s.slide.trucks.get k
      let new := slideNext e s
      (old = .dump ∨ old = .hold ∨ old = .reapply → new.trucks.get k = .apply ∧ new.hold.get k = .stopped ∧
        new.reapply.get k = .stopped ∧ new.release.get k = .stopped) ∧
      (old = .apply → new.trucks.get k = .apply) ∧
      (old = .fault → e.clear ≠ some k → e.confirmed = false → new.trucks.get k = .fault)) ∧
    ∀ e s k, e.release ≠ some k → e.hold ≠ some k → e.reapply ≠ some k → e.clear ≠ some k → e.confirmed = false →
      (s.slide.armed = true → (slideNext e s).armed = true) →
      let slides := ∃ x ∈ axlesOf k, (slideNext e s).axles.get x = .sliding
      let new := slideNext e s
      let air := ∃ p, s.slide.commanded = some p ∧ 0 < p.get k
      (s.slide.trucks.get k = .apply → (slides ∧ air → new.trucks.get k = .dump ∧
          new.release.get k = .running ((s.clock.op + s.params.maxRelease) % 2 ^ 32)) ∧
        (¬(slides ∧ air) → new.trucks.get k = .apply)) ∧
      (s.slide.trucks.get k = .dump → (slides → new.trucks.get k = .dump) ∧
        (¬slides → new.trucks.get k = .hold ∧
          new.hold.get k = .running ((s.clock.op + s.params.holdDwell) % 2 ^ 32))) ∧
      (s.slide.trucks.get k = .hold → (slides → new.trucks.get k = .dump ∧ new.hold.get k = .stopped) ∧
        (¬slides → new.trucks.get k = .hold)) ∧
      (s.slide.trucks.get k = .reapply → (slides → new.trucks.get k = .dump ∧ new.reapply.get k = .stopped) ∧
        (¬slides → new.trucks.get k = .reapply)) ∧
      (s.slide.trucks.get k = .fault → new.trucks.get k = .fault)

/-- The slide timers at expiry: a recovered axle is ADHERING; a truck that is not sliding goes from HOLD to REAPPLY
while slide control can stay armed, and from REAPPLY to APPLY; at the release limit it is in FAULT with SLIDE_FAULT
set (R101, R106 to R108). Each reports its moves ahead of the recompute that they make (R102, R103, R108). -/
def Obligations.SlideTimersActAtExpiry : Prop :=
  let reported (e : SlideEvent) (s t : State) : Prop := s.anyReset = false →
    ∃ u, SlideReported (slideNext e s) { s with emitted := [] } u ∧ t = arbitrate (blendEvent false u)
  (∀ s x, (s.slide.recovery.get x).isRunning = true → s.slide.axles.get x = .recovering →
    ∃ t, exec (.recoveryDwellExpiry x) s = .next t ∧ t.slide.axles.get x = .adhering ∧
      t.slide.recovery.get x = .stopped ∧ reported { SlideEvent.quiet with recovery := some x } s t) ∧
    (∀ s k r, (s.slide.hold.get k).isRunning = true → s.slide.trucks.get k = .hold →
      (∀ x ∈ axlesOf k, s.slide.axles.get x ≠ .sliding) → s.speed.link = .active → s.speed.reference = some r →
      s.params.armingFloor ≤ r → (∃ x, s.slide.axles.get x ≠ .unsensed) →
      ∃ t, exec (.holdDwellExpiry k) s = .next t ∧ t.slide.trucks.get k = .reapply ∧
        t.slide.hold.get k = .stopped ∧
        t.slide.reapply.get k = .running ((s.clock.op + s.params.reapplyDwell) % 2 ^ 32) ∧
        reported { SlideEvent.quiet with hold := some k } s t) ∧
    (∀ s k, (s.slide.reapply.get k).isRunning = true → s.slide.trucks.get k = .reapply →
      (∀ x ∈ axlesOf k, s.slide.axles.get x ≠ .sliding) →
      ∃ t, exec (.reapplyDwellExpiry k) s = .next t ∧ t.slide.trucks.get k = .apply ∧
        t.slide.hold.get k = .stopped ∧ t.slide.reapply.get k = .stopped ∧ t.slide.release.get k = .stopped ∧
        reported { SlideEvent.quiet with reapply := some k } s t) ∧
    ∀ s k, (s.slide.release.get k).isRunning = true →
      s.slide.trucks.get k = .dump ∨ s.slide.trucks.get k = .hold ∨ s.slide.trucks.get k = .reapply →
      ∃ t, exec (.releaseTimerExpiry k) s = .next t ∧ t.slide.trucks.get k = .fault ∧
        t.slide.hold.get k = .stopped ∧ t.slide.reapply.get k = .stopped ∧ t.slide.release.get k = .stopped ∧
        (s.anyReset = false → flagSet t.status.flags .slideFault = true) ∧
        reported { SlideEvent.quiet with release := some k } s t

/-- CLEAR_SLIDE_FAULT: a truck in FAULT leaves it, to APPLY where none of its axles slides, and the answer is DONE; for
another truck state the answer is STATE (R110). The TRUCK entry, with what else moves, stands ahead of the recompute (R102,
R103); that DONE follows both is the model's choice (log 41). -/
def Obligations.SlideFaultIsClearedByDirective : Prop :=
  ∀ s x k, Awaits s .clearSlideFault x → field 0 1 x.args = truckCode k →
    ∃ t, exec .clearSlideFault s = .next t ∧
      (s.slide.trucks.get k = .fault → Answered t x .done ∧ t.slide.trucks.get k ≠ .fault ∧
        ((∀ y ∈ axlesOf k, s.slide.axles.get y ≠ .sliding) → t.slide.trucks.get k = .apply) ∧
        (s.anyReset = false → ∃ u,
          SlideReported (slideNext { SlideEvent.quiet with clear := some k } s) { s with emitted := [] } u ∧
            t = arbitrate (finish .clearSlideFault .done (blendEvent false u)))) ∧
      (s.slide.trucks.get k ≠ .fault → Answered t x .state ∧ t.slide = s.slide)

/-! ### The actuator link unit -/

/-- DYN_REPORT and AIR_REPORT: the reply to the newest command is installed, a late one is counted and not installed,
a stray one is traced only (R121, R126, R127; that a report late through a test's end is not installed is the model's
choice between R121 and R133, log 53). In STARTING or LOST the report that brings the good count to the restore
count makes the channel ACTIVE (R123, R125); in RESUMING a paired report of mode UNDER_CONTROL ends the resume, with DONE
for its directive (R130). -/
def Obligations.ReportsPairWithCommands : Prop :=
  (∀ s bytes echo d, s.anyReset = false → s.rx.traction = [] → OneFrame bytes →
    judgeFrame .traction bytes = some (.dynReport echo d) →
    ∃ t, exec (.dynReport bytes) s = .next t ∧
      ((∀ e ∈ s.traction.list, e.sequence ≠ echo) → t.traction = s.traction ∧ t.blend = s.blend ∧
        ⟨.channel .traction .stray, s.clock.op⟩ ∈ t.recorder.ring) ∧
      ∀ front e rest, s.traction.list = front ++ e :: rest → (∀ y ∈ front, y.sequence ≠ echo) → e.sequence = echo →
        let good := satAdd 255 s.traction.good
        let restored := (s.traction.st = .starting ∨ s.traction.st = .lost) ∧ s.params.restoreCount ≤ good
        let resumed := s.traction.st = .resuming ∧ d.mode = .underControl
        (rest = [] → t.traction.last = some d) ∧
        (rest ≠ [] → t.traction.last = s.traction.last) ∧
        (rest ≠ [] → ¬restored → ¬resumed →
          t.traction = { s.traction with list := rest, good := good, miss := 0 } ∧
            t.blend = s.blend ∧ ⟨.channel .traction .late, s.clock.op⟩ ∈ t.recorder.ring) ∧
        (rest = [] → ¬restored → ¬resumed → Calm s →
          t.traction.st = s.traction.st ∧ t.traction.good = good ∧ t.traction.miss = 0) ∧
        (restored ∨ resumed → ⟨.channel .traction (.stateChange 1), s.clock.op⟩ ∈
            (takeDynReport echo d s).recorder.ring ∧
          (Calm s → t.traction.st = .active ∧ t.traction.good = good ∧ t.traction.miss = 0)) ∧
        (resumed → t.traction.hsKind = .none ∧ t.traction.hsTimer = .stopped ∧
          ∀ x, s.decoder.slot = some x → x.code = .resumeTraction → s.traction.hsOrigin = .directive →
            Answered t x .done)) ∧
    ∀ s bytes echo p, s.anyReset = false → s.rx.air = [] → OneFrame bytes →
      judgeFrame .air bytes = some (.airReport echo p) →
      ∃ t, exec (.airReport bytes) s = .next t ∧
        ((∀ e ∈ s.air.list, e.sequence ≠ echo) → t.air = s.air ∧ t.blend = s.blend ∧
          ⟨.channel .air .stray, s.clock.op⟩ ∈ t.recorder.ring) ∧
        ∀ front e rest, s.air.list = front ++ e :: rest → (∀ y ∈ front, y.sequence ≠ echo) → e.sequence = echo →
          let good := satAdd 255 s.air.good
          let restored := s.air.st ≠ .active ∧ s.params.restoreCount ≤ good
          let after : LinkState := if restored then .active else s.air.st
          (rest = [] → t.air.last = some p) ∧
          (rest ≠ [] → t.air = { s.air with st := after, list := rest, good := good, miss := 0 } ∧
            t.blend = s.blend ∧ ⟨.channel .air .late, s.clock.op⟩ ∈ t.recorder.ring ∧
            (restored → ⟨.channel .air (.stateChange 1), s.clock.op⟩ ∈ t.recorder.ring)) ∧
          (rest = [] → s.air.phase = .none → Calm s →
            t.air.st = after ∧ t.air.good = good ∧ t.air.miss = 0)

/-- FRAME_DISCARDED: a whole frame that a link does not take makes a CHANNEL entry and changes nothing else. Each link
discards exactly the frames of a kind it does not carry, of a length that is not the kind's, with a CRC that differs from
the one over kind to payload, or with a field out of its range (R115, R116, section 12.10). Each receiver takes bytes one
by one: before a delimiter it skips them, and a frame is judged when its last CRC byte has come (R209). -/
def Obligations.BadFramesAreDiscarded : Prop :=
  (∀ f : List Byte, let kind := field 1 1 f
    let len := field 3 1 f
    let part (off n : Nat) : Nat := field (4 + off) n f
    let damaged := field (4 + len) 4 f ≠ crc32 (slice 1 (3 + len) f)
    (judgeFrame .speed f = none ↔ kind ≠ 0x51 ∨ len ≠ 16 ∨ damaged) ∧
    (judgeFrame .air f = none ↔ kind ≠ 0x41 ∨ len ≠ 5 ∨ damaged ∨ 600 < part 1 2 ∨ 600 < part 3 2) ∧
    (kind = 0x22 → (judgeFrame .traction f = none ↔ len ≠ 1 ∨ damaged)) ∧
    (kind = 0x21 → (judgeFrame .traction f = none ↔ len ≠ 18 ∨ damaged ∨
      (∃ k, 1 ≤ k ∧ k ≤ 12 ∧ 150 < part k 1) ∨ 900 < part 13 2 ∨ 900 < part 15 2 ∨ 2 < part 17 1)) ∧
    (kind ≠ 0x21 → kind ≠ 0x22 → judgeFrame .traction f = none)) ∧
  (∀ s bytes, s.anyReset = false → let u : State := { s with emitted := [] }
    exec (.speedSample bytes) s = .next (arbitrate (bytes.foldl (receiveByte .speed) u)) ∧
    exec (.dynReport bytes) s = .next (arbitrate (bytes.foldl (receiveByte .traction) u)) ∧
    exec (.releaseAck bytes) s = .next (arbitrate (bytes.foldl (receiveByte .traction) u)) ∧
    exec (.airReport bytes) s = .next (arbitrate (bytes.foldl (receiveByte .air) u)) ∧
    ∀ l, exec (.frameDiscarded l bytes) s = .next (arbitrate (bytes.foldl (receiveByte l) u))) ∧
  (∀ s l (b : Byte), let f := s.rx.get l ++ [b]
    let whole := 4 ≤ f.length ∧ 8 + field 3 1 f ≤ f.length
    (s.rx.get l = [] → b ≠ 0x7E#8 → receiveByte l s b = s) ∧
    (s.rx.get l ≠ [] ∨ b = 0x7E#8 → ¬whole → receiveByte l s b = { s with rx := s.rx.set l f }) ∧
    (s.rx.get l ≠ [] ∨ b = 0x7E#8 → whole →
      (judgeFrame l f = none →
        receiveByte l s b = trace (.channel l .frameDiscarded) { s with rx := s.rx.set l [] }) ∧
      ∀ good, judgeFrame l f = some good → receiveByte l s b = takeFrame good { s with rx := s.rx.set l [] })) ∧
  ∀ s l bytes, s.anyReset = false → s.rx.get l = [] → OneFrame bytes → judgeFrame l bytes = none →
    ∃ t, exec (.frameDiscarded l bytes) s = .next t ∧ Frame (tracePieces ++ portPieces) s t ∧
      ⟨.channel l .frameDiscarded, s.clock.op⟩ ∈ t.recorder.ring ∧
      (s.recorder.ring.length < 48 →
        t.recorder.ring = s.recorder.ring ++ [⟨.channel l .frameDiscarded, s.clock.op⟩])

/-- KEEPALIVE_TIMER_EXPIRY: the command goes out again with the next sequence number, and enters the list; to a full
list it is a miss, which may lose the channel. While the air path test is the command source the frame carries the phase's
pressures (R118 to R120, R122, R123, R133; the values sent otherwise are the model's reading, log 22). A hand-off of
results by the blend unit keeps new values, and sends them in a sending state, and on the air channel with the blend unit
as command source, with the same effects: its entry with a reply timer in the list, the sequence moved on, the keepalive
timer restarted (R61, R118 to R120; that the miss of a full list stands after the sending is the model's, log 25). -/
def Obligations.KeepaliveSendsTheCommand : Prop :=
  (∀ s, s.traction.keepalive.isRunning = true →
    ∃ t, exec (.keepaliveTimerExpiry .traction) s = .next t ∧
      let entry : Outstanding := ⟨s.traction.sendSeq, .running ((s.clock.op + s.params.replyTimeout) % 2 ^ 32)⟩
      let sent := { s.traction with
        sendSeq := (s.traction.sendSeq + 1) % 256
        keepalive := .running ((s.clock.op + s.params.keepalive) % 2 ^ 32) }
      t.emitted.head? =
        some (.frame .traction (dynCommandFrame s.traction.sendSeq (s.traction.values.getD (Six.all 0)))) ∧
      (s.traction.list.length < 4 → t.traction = { sent with list := s.traction.list ++ [entry] }) ∧
      (4 ≤ s.traction.list.length →
        let loses := (s.traction.st = .starting ∨ s.traction.st = .active) ∧
          s.params.missLimit ≤ satAdd 255 s.traction.miss
        (¬loses → t.traction = { sent with
          list := s.traction.list.drop 1 ++ [entry]
          miss := satAdd 255 s.traction.miss
          good := 0 }) ∧
        (loses → t.traction.st = .lost ∧ (s.anyReset = false → flagSet t.status.flags .linkLost = true)))) ∧
    (∀ s, s.air.keepalive.isRunning = true →
      ∃ t, exec (.keepaliveTimerExpiry .air) s = .next t ∧
        let entry : Outstanding := ⟨s.air.sendSeq, .running ((s.clock.op + s.params.replyTimeout) % 2 ^ 32)⟩
        let sent := { s.air with
          sendSeq := (s.air.sendSeq + 1) % 256
          keepalive := .running ((s.clock.op + s.params.keepalive) % 2 ^ 32) }
        (s.air.source = .blend →
          t.emitted.head? = some (.frame .air (airCommandFrame s.air.sendSeq (s.air.values.getD ⟨0, 0⟩)))) ∧
        (s.air.source = .test → ∀ v,
          (s.air.phase, v) ∈ [(.aApply, ⟨s.params.testPressure, s.params.holdPressure⟩),
            (.aRelease, ⟨0, s.params.holdPressure⟩), (.bApply, ⟨s.params.holdPressure, s.params.testPressure⟩),
            (.bRelease, ⟨s.params.holdPressure, 0⟩)] →
          t.emitted.head? = some (.frame .air (airCommandFrame s.air.sendSeq v))) ∧
        (s.air.list.length < 4 → t.air = { sent with list := s.air.list ++ [entry] }) ∧
        (4 ≤ s.air.list.length →
          let loses := s.air.st ≠ .lost ∧ s.params.missLimit ≤ satAdd 255 s.air.miss
          (¬loses → t.air = { sent with
            list := s.air.list.drop 1 ++ [entry]
            miss := satAdd 255 s.air.miss
            good := 0 }) ∧
          (loses → t.air.st = .lost ∧ t.air.phase = .none ∧
            (s.anyReset = false → flagSet t.status.flags .linkLost = true)))) ∧
    (∀ s, let entry : Outstanding := ⟨s.traction.sendSeq, .running ((s.clock.op + s.params.replyTimeout) % 2 ^ 32)⟩
      let sent := { s.traction with
        sendSeq := (s.traction.sendSeq + 1) % 256
        keepalive := .running ((s.clock.op + s.params.keepalive) % 2 ^ 32) }
      let out := s.emitted ++
        [.frame .traction (dynCommandFrame s.traction.sendSeq (s.traction.values.getD (Six.all 0)))]
      let missed : State := { s with
        emitted := out
        traction := { sent with
          list := s.traction.list.drop 1 ++ [entry]
          miss := satAdd 255 s.traction.miss
          good := 0 } }
      (s.traction.list.length < 4 →
        sendTraction s = { s with emitted := out, traction := { sent with list := s.traction.list ++ [entry] } }) ∧
      (4 ≤ s.traction.list.length →
        let loses := (s.traction.st = .starting ∨ s.traction.st = .active) ∧
          s.params.missLimit ≤ satAdd 255 s.traction.miss
        (¬loses → sendTraction s = missed) ∧ (loses → sendTraction s = tractionLost missed))) ∧
    (∀ s, let entry : Outstanding := ⟨s.air.sendSeq, .running ((s.clock.op + s.params.replyTimeout) % 2 ^ 32)⟩
      let sent := { s.air with
        sendSeq := (s.air.sendSeq + 1) % 256
        keepalive := .running ((s.clock.op + s.params.keepalive) % 2 ^ 32) }
      s.air.source = .blend →
      let out := s.emitted ++ [.frame .air (airCommandFrame s.air.sendSeq (s.air.values.getD ⟨0, 0⟩))]
      let missed : State := { s with
        emitted := out
        air := { sent with list := s.air.list.drop 1 ++ [entry], miss := satAdd 255 s.air.miss, good := 0 } }
      (s.air.list.length < 4 →
        sendAir s = { s with emitted := out, air := { sent with list := s.air.list ++ [entry] } }) ∧
      (4 ≤ s.air.list.length →
        let loses := s.air.st ≠ .lost ∧ s.params.missLimit ≤ satAdd 255 s.air.miss
        (¬loses → sendAir s = missed) ∧ (loses → sendAir s = endTest .aborted (airLost missed)))) ∧
    (∀ s, let v := s.blend.targets
      let handed : State := { s with blend := { s.blend with handedTargets := some v } }
      let kept : State := { handed with traction := { s.traction with values := some v } }
      handTargets s = if s.blend.handedTargets = some v then s
        else if s.traction.values = some v then handed
        else if s.traction.st = .releasing ∨ s.traction.st = .released then kept else sendTraction kept) ∧
    ∀ s, let v := s.blend.commanded
      let handed : State := { s with blend := { s.blend with handedAir := some v } }
      let kept : State := { handed with air := { s.air with values := some v } }
      handAir s = if s.blend.handedAir = some v then s
        else if s.air.values = some v then handed
        else if s.air.source = .test then kept else sendAir kept

/-- REPLY_TIMER_EXPIRY: the entry leaves its list and counts a miss; at the miss limit the channel is LOST, with
LINK_LOST set, and a running air path test ends (R122 to R124, R136). A loss moves of its channel the state alone, and
brings the CHANNEL entry, the flag, the count and the trigger (R124). -/
def Obligations.MissedRepliesLoseTheChannel : Prop :=
  (∀ s, let lost (l : Link) (own : Piece) (h : Health) (c : TriggerCause) (cls : IncidentClass) (t : State) : Prop :=
      Frame (own :: requestPieces) s t ∧ (s.anyReset = false → flagSet t.status.flags .linkLost = true ∧
        ∃ u, Frame (own :: requestPieces) s u ∧ ⟨.channel l (.stateChange 2), s.clock.op⟩ ∈ u.recorder.ring ∧
          ⟨.trigger c cls.code true, s.clock.op⟩ ∈ u.recorder.ring ∧
          u.retention.counts = s.retention.counts.set h (satAdd 65535 (s.retention.counts.get h)) ∧
          Disposed (stampNow s c cls) u t)
    (tractionLost s).traction = { s.traction with st := .lost } ∧
      lost .traction .traction .tractionLosses .tractionLost .advisory (tractionLost s) ∧
      (airLost s).air = { s.air with st := .lost } ∧ lost .air .air .airLosses .airLost .serious (airLost s)) ∧
  (∀ s (n : Byte), (∃ e ∈ s.traction.list, e.sequence = n.toNat) →
    ∃ t, exec (.replyTimerExpiry .traction n) s = .next t ∧
      let miss := satAdd 255 s.traction.miss
      let loses := (s.traction.st = .starting ∨ s.traction.st = .active) ∧ s.params.missLimit ≤ miss
      (¬loses → t.traction = { s.traction with
        list := s.traction.list.filter fun e => e.sequence != n.toNat
        miss := miss
        good := 0 }) ∧
      (loses → t.traction.st = .lost ∧ (s.anyReset = false → flagSet t.status.flags .linkLost = true))) ∧
    ∀ s (n : Byte), (∃ e ∈ s.air.list, e.sequence = n.toNat) →
      ∃ t, exec (.replyTimerExpiry .air n) s = .next t ∧
        let miss := satAdd 255 s.air.miss
        let loses := s.air.st ≠ .lost ∧ s.params.missLimit ≤ miss
        (¬loses → t.air = { s.air with
          list := s.air.list.filter fun e => e.sequence != n.toNat
          miss := miss
          good := 0 }) ∧
        (loses → t.air.st = .lost ∧ t.air.phase = .none ∧
          (s.anyReset = false → flagSet t.status.flags .linkLost = true))

/-- RELEASE_ACK and HANDSHAKE_TIMER_EXPIRY: the awaited acknowledgement makes RELEASED and DONE, another is stray; a
release that times out ends the handshake with FAILED, back in ACTIVE with a DYN_COMMAND sent at once and the keepalive
timer started; a resume that times out is LOST (R128 to R130). Each change of state has its CHANNEL entry, ahead of the
directive's result, the flag, the count and the trigger of a loss, and the hand-off to the blend unit (R124, R128 to R130). -/
def Obligations.HandshakeEndsByAckOrTimer : Prop :=
  (∀ s bytes echo, s.anyReset = false → s.rx.traction = [] → OneFrame bytes →
    judgeFrame .traction bytes = some (.releaseAck echo) →
    ∃ t, exec (.releaseAck bytes) s = .next t ∧
      (s.traction.st = .releasing → s.traction.hsSeq = some echo → t.traction.st = .released ∧
        t.traction.hsTimer = .stopped ∧
        (∀ x, s.decoder.slot = some x → x.code = .releaseTraction → Answered t x .done) ∧
        ∃ u, Frame (.traction :: tracePieces) { s with emitted := [] } u ∧
          u.traction = { s.traction with st := .released, hsTimer := .stopped } ∧
          Traced [.channel .traction (.stateChange 4)] s u ∧
          t = arbitrate (blendEvent false (finish .releaseTraction .done u))) ∧
      (¬(s.traction.st = .releasing ∧ s.traction.hsSeq = some echo) → t.traction = s.traction ∧
        t.decoder = s.decoder ∧ ⟨.channel .traction .stray, s.clock.op⟩ ∈ t.recorder.ring)) ∧
    (∀ s, s.traction.hsTimer.isRunning = true → s.traction.st = .releasing →
      ∃ t, exec .handshakeTimerExpiry s = .next t ∧ t.traction.hsKind = .none ∧ t.traction.hsTimer = .stopped ∧
        t.traction.st ≠ .releasing ∧
        t.emitted.head? =
          some (.frame .traction (dynCommandFrame s.traction.sendSeq (s.traction.values.getD (Six.all 0)))) ∧
        t.traction.keepalive = .running ((s.clock.op + s.params.keepalive) % 2 ^ 32) ∧
        (s.traction.list = [] → Calm s → t.traction.st = .active) ∧
        (∀ x, s.decoder.slot = some x → x.code = .releaseTraction → Answered t x .failed) ∧
        (s.anyReset = false → ∃ u, Frame (.traction :: tracePieces) { s with emitted := [] } u ∧
          u.traction = { s.traction with st := .active, hsKind := .none, hsTimer := .stopped } ∧
          Traced [.channel .traction (.stateChange 1)] s u ∧
          t = arbitrate (blendEvent true (finish .releaseTraction .failed (sendTraction u))))) ∧
    ∀ s, s.traction.hsTimer.isRunning = true → s.traction.st = .resuming →
      ∃ t, exec .handshakeTimerExpiry s = .next t ∧ t.traction.hsKind = .none ∧ t.traction.hsTimer = .stopped ∧
        t.traction.st = .lost ∧ (s.anyReset = false → flagSet t.status.flags .linkLost = true) ∧
        (∀ x, s.decoder.slot = some x → x.code = .resumeTraction → s.traction.hsOrigin = .directive →
          Answered t x .failed) ∧
        (s.anyReset = false → ∃ u v w, Frame (.traction :: tracePieces) { s with emitted := [] } u ∧
          u.traction = { s.traction with st := .lost, hsKind := .none, hsTimer := .stopped } ∧
          Traced [.channel .traction (.stateChange 2)] s u ∧
          Flagged .linkLost
            (if s.traction.hsOrigin = .directive then finish .resumeTraction .failed u else u) v ∧
          Raised .tractionLost .advisory (countHealth .tractionLosses v) w ∧ t = arbitrate (blendEvent false w))

/-- RELEASE_TRACTION and RESUME_TRACTION: where the conditions hold the handshake begins with its request frame and the
answer is IN_PROGRESS; elsewhere the answer is STATE (R129, R130, R184). In RELEASING or RELEASED a departure from confirmed
standstill and the entry to EMERGENCY resume by themselves, with a pending RELEASE TRACTION answered ABORTED and, at a
departure to MOVING, a RELEASE_OVERRUN trigger (R131; ahead of what a running air path test then does, log 40). The entries
to RELEASING and RESUMING have their CHANNEL entries, ahead of the command that a resume sends, of the directive's result
and of the hand-off to the blend unit (R128 to R131). -/
def Obligations.TractionIsReleasedAndResumed : Prop :=
  let resumes (s t : State) : Prop := t.traction.st = .resuming ∧ t.traction.hsKind = .resume ∧
    t.traction.hsOrigin = .automatic ∧
    t.traction.hsTimer = .running ((s.clock.op + s.params.releaseTimeout) % 2 ^ 32) ∧
    .frame .traction (resumeRequestFrame s.traction.sendSeq) ∈ t.emitted ∧
    (s.traction.st = .releasing → ∀ x, s.decoder.slot = some x → x.code = .releaseTraction → Answered t x .aborted)
  let released (s : State) : Prop := s.traction.st = .releasing ∨ s.traction.st = .released
  let resuming (o : HsOrigin) (s u : State) : Prop := Frame (.traction :: .emitted :: tracePieces) s u ∧
    u.traction = { s.traction with
      st := .resuming
      sendSeq := (s.traction.sendSeq + 1) % 256
      hsKind := .resume
      hsOrigin := o
      hsTimer := .running ((s.clock.op + s.params.releaseTimeout) % 2 ^ 32) } ∧
    u.emitted = s.emitted ++ [.frame .traction (resumeRequestFrame s.traction.sendSeq)] ∧
    Traced [.channel .traction (.stateChange 5)] s u
  (∀ s x, Awaits s .releaseTraction x → s.retention.lock = false → x.keyName = some .maintenance →
    s.retention.maintenance = some x.key →
    ∃ t, exec .releaseTraction s = .next t ∧ t.retention.failed = 0 ∧
      let free := s.speed.standstill = .confirmed ∧ s.traction.st = .active ∧
        (s.demand.st = .noDemand ∨ (s.demand.st = .live ∧ s.demand.effective.fields.mode = .release))
      (free → UnderWay t x ∧ t.traction.st = .releasing ∧ t.traction.hsKind = .release ∧
        t.traction.hsOrigin = .directive ∧ t.traction.hsSeq = some s.traction.sendSeq ∧
        t.traction.hsTimer = .running ((s.clock.op + s.params.releaseTimeout) % 2 ^ 32) ∧ t.traction.list = [] ∧
        t.traction.keepalive = .stopped ∧ t.traction.miss = 0 ∧ t.traction.good = 0 ∧
        t.traction.sendSeq = (s.traction.sendSeq + 1) % 256 ∧
        t.emitted.head? = some (.frame .traction (releaseRequestFrame s.traction.sendSeq)) ∧
        (s.anyReset = false → ∃ u, Frame (.traction :: .keys :: .emitted :: tracePieces) s u ∧
          u.traction = { s.traction with
            st := .releasing
            list := []
            keepalive := .stopped
            miss := 0
            good := 0
            sendSeq := (s.traction.sendSeq + 1) % 256
            hsSeq := some s.traction.sendSeq
            hsKind := .release
            hsOrigin := .directive
            hsTimer := .running ((s.clock.op + s.params.releaseTimeout) % 2 ^ 32) } ∧
          u.emitted = [.frame .traction (releaseRequestFrame s.traction.sendSeq)] ∧
          Traced [.channel .traction (.stateChange 3)] s u ∧ t = arbitrate (blendEvent false (inProgress u)))) ∧
      (¬free → Answered t x .state ∧ t.traction = s.traction)) ∧
    (∀ s x, Awaits s .resumeTraction x →
      ∃ t, exec .resumeTraction s = .next t ∧
        (s.traction.st = .released → UnderWay t x ∧ t.traction.st = .resuming ∧ t.traction.hsKind = .resume ∧
          t.traction.hsOrigin = .directive ∧
          t.traction.hsTimer = .running ((s.clock.op + s.params.releaseTimeout) % 2 ^ 32) ∧
          t.emitted.head? = some (.frame .traction (resumeRequestFrame s.traction.sendSeq)) ∧
          (s.anyReset = false → ∃ u, resuming .directive { s with emitted := [] } u ∧
            t = arbitrate (blendEvent false (inProgress (sendTraction u))))) ∧
        (s.traction.st ≠ .released → Answered t x .state ∧ t.traction = s.traction)) ∧
    (∀ overrun s, let t := autoResume overrun s
      (¬released s → t = s) ∧
      (released s → resumes s t ∧
        (overrun = false → Frame (.traction :: .emitted :: resultPieces) s t) ∧
        (overrun = true → s.anyReset = false → ∃ u, Frame (.traction :: .emitted :: resultPieces) s u ∧
          ⟨.trigger .releaseOverrun 2 true, s.clock.op⟩ ∈ u.recorder.ring ∧
          Disposed (stampNow s .releaseOverrun .advisory) u t) ∧
        (s.anyReset = false → ∃ u v, resuming .automatic s u ∧
          v = (if s.traction.st = .releasing then finish .releaseTraction .aborted (sendTraction u)
            else sendTraction u) ∧
          if overrun then Raised .releaseOverrun .advisory v t else t = v))) ∧
    (∀ moving s, linksLoseStandstill moving s = endTest .aborted (autoResume moving s)) ∧
    (∀ s, linksTakeDemand .state s =
      endTest .aborted (if s.demand.st = .emergency then autoResume false s else s)) ∧
    (∀ s bytes n tm v, s.anyReset = false → s.rx.speed = [] → OneFrame bytes →
      judgeFrame .speed bytes = some (.speedSample n tm v) → s.speed.number ≠ some n →
      s.speed.standstill = .confirmed → released s →
      ∃ t, exec (.speedSample bytes) s = .next t ∧
        (t.speed.standstill ≠ .confirmed → resumes s t) ∧
        (t.speed.standstill = .confirmed → t.traction.st = s.traction.st)) ∧
    (∀ s, s.speed.sensor.isRunning = true → s.speed.standstill = .confirmed → released s →
      ∃ t, exec .sensorTimerExpiry s = .next t ∧ resumes s t) ∧
    ∀ s c rest r, s.demand.inbox = c :: rest → c.judge = .inl r → r.fields.mode = .emergency →
      (∀ l, s.demand.last = some l → l.sequence ≠ r.sequence) → s.demand.st ≠ .emergency → released s →
      ∃ t, exec .demandRecord s = .next t ∧ resumes s t

/-- TEST_AIR_PATH, AIR_REPORT, PHASE_TIMER_EXPIRY and ABORT_AIR_PATH_TEST: a test that may run enters A_APPLY with its
pressures and is IN_PROGRESS, or with a full list whose miss loses the channel ends ABORTED at once; a report within the
tolerance passes the phase to the next, and B_RELEASE to the end PASS; a phase that times out fails the test and an abort
ends it ABORTED, each kept as the last test, with the command source back at BLEND (R120, R123, R132 to R136, R19). A
change of the demand that is more than the sequence alone (its entry to STALE among them, log 39), a departure from
confirmed standstill and a loss of the air channel abort it (R135). That a test whose first command loses the channel is
answered ABORTED with no IN_PROGRESS is log 25's. The TEST entry STARTED stands ahead of the first phase's command and the
answer, and PHASE_PASSED, after the CHANNEL entry of a restored channel, ahead of the next phase's command or of the end
(R128, R132, R133). -/
def Obligations.AirPathTestRunsAndEnds : Prop :=
  let ended (r : TestResult) (a : DirResult) (s t : State) : Prop :=
    t.air.phase = .none ∧ t.air.phaseTimer = .stopped ∧ t.air.source = .blend ∧
      t.air.lastTest = some ⟨r, s.air.phase, s.air.last.getD ⟨0, 0⟩⟩ ∧
      ∀ x, s.decoder.slot = some x → x.code = .testAirPath → Answered t x a
  (∀ s x, Awaits s .testAirPath x →
    ∃ t, exec .testAirPath s = .next t ∧
      let p := s.demand.effective.fields.independent
      let allowed := s.speed.standstill = .confirmed ∧ s.air.st = .active ∧
        (s.demand.st = .noDemand ∨ (s.demand.st = .live ∧ s.demand.effective.fields.mode = .release ∧
          p.a ≤ s.params.holdPressure ∧ p.b ≤ s.params.holdPressure))
      (allowed → s.air.list.length < 4 → UnderWay t x ∧
        t.emitted.head? =
          some (.frame .air (airCommandFrame s.air.sendSeq ⟨s.params.testPressure, s.params.holdPressure⟩)) ∧
        t.air = { s.air with
          source := .test
          phase := .aApply
          phaseTimer := .running ((s.clock.op + s.params.phaseTimeout) % 2 ^ 32)
          sendSeq := (s.air.sendSeq + 1) % 256
          list := s.air.list ++
            [⟨s.air.sendSeq, .running ((s.clock.op + s.params.replyTimeout) % 2 ^ 32)⟩]
          keepalive := .running ((s.clock.op + s.params.keepalive) % 2 ^ 32) }) ∧
      (allowed → 4 ≤ s.air.list.length → satAdd 255 s.air.miss < s.params.missLimit → UnderWay t x ∧
        t.air = { s.air with
          source := .test
          phase := .aApply
          phaseTimer := .running ((s.clock.op + s.params.phaseTimeout) % 2 ^ 32)
          sendSeq := (s.air.sendSeq + 1) % 256
          list := s.air.list.drop 1 ++
            [⟨s.air.sendSeq, .running ((s.clock.op + s.params.replyTimeout) % 2 ^ 32)⟩]
          keepalive := .running ((s.clock.op + s.params.keepalive) % 2 ^ 32)
          miss := satAdd 255 s.air.miss
          good := 0 }) ∧
      (allowed → 4 ≤ s.air.list.length → s.params.missLimit ≤ satAdd 255 s.air.miss → Answered t x .aborted ∧
        t.air.st = .lost ∧ t.air.phase = .none ∧ t.air.phaseTimer = .stopped ∧ t.air.source = .blend ∧
        t.air.lastTest = some ⟨.aborted, .aApply, s.air.last.getD ⟨0, 0⟩⟩ ∧
        (s.anyReset = false → flagSet t.status.flags .linkLost = true)) ∧
      (allowed → s.anyReset = false → ∃ u, Frame (.air :: tracePieces) { s with emitted := [] } u ∧
        Traced [.test .aApply .started] s u ∧
        u.air = { s.air with
          source := .test
          phase := .aApply
          phaseTimer := .running ((s.clock.op + s.params.phaseTimeout) % 2 ^ 32) } ∧
        t = arbitrate (inProgress (sendAir u))) ∧
      (¬allowed → Answered t x .state ∧ t.air = s.air)) ∧
    (∀ s bytes echo v front e, s.anyReset = false → s.rx.air = [] → OneFrame bytes →
      judgeFrame .air bytes = some (.airReport echo v) → s.air.list = front ++ [e] →
      (∀ y ∈ front, y.sequence ≠ echo) → e.sequence = echo → s.air.phase ≠ .none → s.air.source = .test →
      ∃ t, exec (.airReport bytes) s = .next t ∧
        let tested := if s.air.phase = .aApply ∨ s.air.phase = .aRelease then v.a else v.b
        let target := if s.air.phase = .aApply ∨ s.air.phase = .bApply then s.params.testPressure else 0
        let passes := tested ≤ target + s.params.testTolerance ∧ target ≤ tested + s.params.testTolerance
        (¬passes → t.air.phase = s.air.phase ∧ t.air.phaseTimer = s.air.phaseTimer ∧ t.air.source = .test ∧
          t.air.lastTest = s.air.lastTest ∧ t.decoder = s.decoder) ∧
        (passes → ∀ next sent, (s.air.phase, next, sent) ∈ [
            (.aApply, .aRelease, ⟨0, s.params.holdPressure⟩),
            (.aRelease, .bApply, ⟨s.params.holdPressure, s.params.testPressure⟩),
            (.bApply, .bRelease, ⟨s.params.holdPressure, 0⟩)] →
          t.air.phase = next ∧ t.air.phaseTimer = .running ((s.clock.op + s.params.phaseTimeout) % 2 ^ 32) ∧
            t.air.source = .test ∧ t.air.lastTest = s.air.lastTest ∧ t.decoder = s.decoder ∧
            t.emitted.head? = some (.frame .air (airCommandFrame s.air.sendSeq sent))) ∧
        (passes → s.air.phase = .bRelease → t.air.phase = .none ∧ t.air.phaseTimer = .stopped ∧
          t.air.source = .blend ∧ t.air.lastTest = some ⟨.pass, .bRelease, v⟩ ∧
          ∀ x, s.decoder.slot = some x → x.code = .testAirPath → Answered t x .done) ∧
        let restored := s.air.st ≠ .active ∧ s.params.restoreCount ≤ satAdd 255 s.air.good
        ∃ u, Frame (.air :: tracePieces) { s with emitted := [] } u ∧
          u.air = { s.air with
            st := if restored then .active else s.air.st
            list := []
            last := some v
            good := satAdd 255 s.air.good
            miss := 0 } ∧
          Traced ((if restored then [.channel .air (.stateChange 1)] else []) ++
            if passes then [.test s.air.phase .phasePassed] else []) s u ∧
          t = arbitrate (blendEvent false (if passes then
            match s.air.phase with
              | .aApply => enterPhase .aRelease u
              | .aRelease => enterPhase .bApply u
              | .bApply => enterPhase .bRelease u
              | .bRelease | .none => endTest .pass u
            else u))) ∧
    (∀ s, s.air.phaseTimer.isRunning = true → s.air.phase ≠ .none →
      ∃ t, exec .phaseTimerExpiry s = .next t ∧ t.air.phase = .none ∧ t.air.phaseTimer = .stopped ∧
        t.air.source = .blend ∧ t.air.lastTest = some ⟨.fail, s.air.phase, s.air.last.getD ⟨0, 0⟩⟩ ∧
        ∀ x, s.decoder.slot = some x → x.code = .testAirPath → Answered t x .failed) ∧
    (∀ s tag rest, s.decoder.aborts = tag :: rest →
      ∃ t, exec .abortAirPathTest s = .next t ∧ t.decoder.aborts = rest ∧
        (s.air.phase = .none → t.air = s.air ∧ t.decoder.last = ⟨tag, 0x11, .state⟩) ∧
        (s.air.phase ≠ .none → t.air.phase = .none ∧ t.air.source = .blend ∧
          t.air.lastTest = some ⟨.aborted, s.air.phase, s.air.last.getD ⟨0, 0⟩⟩ ∧
          t.decoder.last = ⟨tag, 0x11, .done⟩ ∧
          ∀ x, s.decoder.slot = some x → x.code = .testAirPath → t.decoder.slot = none)) ∧
    (∀ s x, s.decoder.aborts = [] → Awaits s .abortAirPathTest x → s.air.phase = .none →
      ∃ t, exec .abortAirPathTest s = .next t ∧ Answered t x .state ∧ t.air = s.air) ∧
    (∀ r a s, (r, a) ∈ [(TestResult.pass, DirResult.done), (.fail, .failed), (.aborted, .aborted)] →
      let t := endTest r s
      let ph := s.air.phase
      let pr := s.air.last.getD ⟨0, 0⟩
      (ph = .none → t = s) ∧ (ph ≠ .none → ended r a s t ∧ (s.anyReset = false → ∃ u, Frame airStepPieces s u ∧
        ⟨.test ph (.ended r), s.clock.op⟩ ∈ u.recorder.ring ∧
        ⟨.trigger (.testResult r ph pr) 4 true, s.clock.op⟩ ∈ u.recorder.ring ∧
        Disposed (stampNow s (.testResult r ph pr) .test) u t))) ∧
    (∀ s, linksTakeDemand .sequenceAlone s = s ∧ linksTakeDemand .fields s = endTest .aborted s ∧
      linksTakeDemand .state s = endTest .aborted (if s.demand.st = .emergency then autoResume false s else s)) ∧
    (∀ s c rest r l, s.demand.inbox = c :: rest → c.judge = .inl r → s.demand.last = some l →
      l.sequence ≠ r.sequence → r.fields.mode ≠ .emergency → s.demand.st = .live → s.air.phase ≠ .none →
      ∃ t, exec .demandRecord s = .next t ∧
        (r.fields ≠ l.fields → ended .aborted .aborted s t) ∧
        (r.fields = l.fields → s.air.source = .test → t.air.phase = s.air.phase ∧
          t.air.phaseTimer = s.air.phaseTimer ∧ t.air.source = .test ∧ t.air.lastTest = s.air.lastTest ∧
          t.decoder = s.decoder)) ∧
    (∀ s c rest r, s.demand.inbox = c :: rest → c.judge = .inl r →
      (∀ l, s.demand.last = some l → l.sequence ≠ r.sequence) → r.fields.mode = .emergency →
      s.demand.st ≠ .emergency → s.air.phase ≠ .none →
      ∃ t, exec .demandRecord s = .next t ∧ ended .aborted .aborted s t) ∧
    (∀ s, s.demand.st = .live → s.demand.freshness.isRunning = true → s.air.phase ≠ .none →
      ∃ t, exec .freshnessTimerExpiry s = .next t ∧ ended .aborted .aborted s t) ∧
    (∀ s bytes n tm v, s.anyReset = false → s.rx.speed = [] → OneFrame bytes →
      judgeFrame .speed bytes = some (.speedSample n tm v) → s.speed.number ≠ some n →
      s.speed.standstill = .confirmed → s.air.phase ≠ .none →
      ∃ t, exec (.speedSample bytes) s = .next t ∧ (t.speed.standstill ≠ .confirmed → ended .aborted .aborted s t)) ∧
    (∀ s, s.speed.sensor.isRunning = true → s.speed.standstill = .confirmed → s.air.phase ≠ .none →
      ∃ t, exec .sensorTimerExpiry s = .next t ∧ ended .aborted .aborted s t) ∧
    ∀ s (n : Byte), (∃ e ∈ s.air.list, e.sequence = n.toNat) → s.air.st ≠ .lost →
      s.params.missLimit ≤ satAdd 255 s.air.miss → s.air.phase ≠ .none →
      ∃ t, exec (.replyTimerExpiry .air n) s = .next t ∧ t.air.st = .lost ∧ ended .aborted .aborted s t

/-! ### The recorder -/

/-- TRIGGER_LINE_CHANGE and DEBOUNCE_TIMER_EXPIRY: the detector's moves, and at a detection the TRIGGER entry, the
disarming of a line in mode ONCE and, for an armed line of class EMERGENCY, the emergency, before incident assembly
disposes of the armed line's trigger (R147 to R150, R161; the class code of the entry is the model's reading, log 20; that
the triggers which the emergency line request brings about in other blocks reach incident assembly before the line's own
is the model's choice, log 49). An emergency line request is taken out of reset and outside EMERGENCY alone: it latches the
emergency with a DSTATE entry of cause EMERGENCY_LINE ahead of the hand-off, sets the EMERGENCY flag and raises no trigger
of its own (R47, R48, R51, R52). -/
def Obligations.TriggerLinesAreDetected : Prop :=
  (∀ ahead s, let t := emergencyLineRequest ahead s
    (s.anyReset = true ∨ s.demand.st = .emergency → t = s) ∧
    (s.anyReset = false → s.demand.st ≠ .emergency → ∃ u, Frame (.demand :: tracePieces) s u ∧
      u.demand = { s.demand with
        freshness := .stopped
        grace := .stopped
        emergencyLatch := true
        st := .emergency
        effective := ⟨none, ⟨.emergency, 0, ⟨0, 0⟩, .blended, 0⟩⟩ } ∧
      Traced [.dstate s.demand.st .emergency .emergencyLine] s u ∧
      Flagged .emergency (if ahead then
          linksTakeDemand .state (slideRun .exam { u with status := { u.status with demandHanded := .emergency } })
        else handDemand .state u) t)) ∧
  ∀ (s : State) (l : Line), s.anyReset = false →
    let c := s.params.lines.get l
    let v := s.lines.get l
    let cls : IncidentClass := match c.cls with
      | .serious | .emergency => .serious
      | .advisory => .advisory
      | .operator => .operator
    let detected (t : State) : Prop :=
      (v.armed = false → ⟨.trigger (.line l) c.cls.code false, s.clock.op⟩ ∈ t.recorder.ring ∧
        t.recorder.lifetime = s.recorder.lifetime ∧ t.recorder.unstored = s.recorder.unstored) ∧
      (v.armed = true → c.cls ≠ .emergency →
        ⟨.trigger (.line l) c.cls.code true, s.clock.op⟩ ∈ t.recorder.ring ∧ t.demand = s.demand) ∧
      (v.armed = true → c.cls = .emergency → t.demand.st = .emergency) ∧
      (v.armed = true → ∃ u w x, Frame (.lines :: .emitted :: tracePieces) s u ∧
        ⟨.trigger (.line l) cls.code true, s.clock.op⟩ ∈ u.recorder.ring ∧
        w = (if c.cls = .emergency then emergencyLineRequest false u else u) ∧
        Disposed (stampNow s (.line l) cls) w x ∧ t = arbitrate x)
    let still := v.armed && c.repeating
    (∀ high, ∃ t, exec (.triggerLineChange l high) s = .next t ∧ (∀ j, j ≠ l → t.lines.get j = s.lines.get j) ∧
      (c.debounce ≠ .none → t.lines.get l = { v with input := high } ∧ Frame (.lines :: portPieces) s t) ∧
      (c.debounce = .none → high = c.activeLow →
        t.lines.get l = { v with input := high, detector := .clear } ∧ Frame (.lines :: portPieces) s t) ∧
      (c.debounce = .none → high ≠ c.activeLow → v.detector ≠ .clear →
        t.lines.get l = { v with input := high } ∧ Frame (.lines :: portPieces) s t) ∧
      (c.debounce = .none → high ≠ c.activeLow → v.detector = .clear →
        t.lines.get l = { v with input := high, detector := .detected, armed := still } ∧ detected t)) ∧
    ∀ p, c.debounce.period = some p → v.debounce.isRunning = true →
      ∃ t, exec (.debounceTimerExpiry l) s = .next t ∧ (∀ j, j ≠ l → t.lines.get j = s.lines.get j) ∧
        let next := { v with debounce := .running ((s.clock.op + p) % 2 ^ 32) }
        (v.input = c.activeLow → t.lines.get l = { next with detector := .clear } ∧
          Frame (.lines :: portPieces) s t) ∧
        (v.input ≠ c.activeLow → v.detector = .clear → t.lines.get l = { next with detector := .seen } ∧
          Frame (.lines :: portPieces) s t) ∧
        (v.input ≠ c.activeLow → v.detector = .seen →
          t.lines.get l = { next with detector := .detected, armed := still } ∧ detected t) ∧
        (v.input ≠ c.activeLow → v.detector = .detected → t.lines.get l = { next with detector := .detected } ∧
          Frame (.lines :: portPieces) s t)

/-- Incident assembly disposes of every cause: it opens an incident, joins the open one, is kept pending or is counted
unstored, by the recorder's state and the store (R161, R162, R165, R167, R173). An opening takes the first slot that it may
choose, counting up from the next-slot index and round to 0: one whose entry is EMPTY, CLOSED or INTERRUPTED with the mark
clear and that no RETAIN INCIDENT in hand names (R160 to R162, R191). TRIGGER_INCIDENT: its trigger is disposed
of so, and the answer is DONE, or FAILED for an unstored one (R154, R155). -/
def Obligations.SoftwareTriggerIsDisposedOf : Prop :=
  (∀ c s, Disposed c s (assemble c s)) ∧
  (∀ e : SlotEntry, e.eligible = true ↔
    e.retained = false ∧ (e.state = .empty ∨ e.state = .closed ∨ e.state = .interrupted)) ∧
  (∀ s k, s.chooseSlot = some k ↔ ∃ j, j < s.params.slots ∧ k = (s.recorder.nextSlot + j) % s.params.slots ∧
    Choosable s k ∧ ∀ i, i < j → ¬Choosable s ((s.recorder.nextSlot + i) % s.params.slots)) ∧
  ∀ s x, Awaits s .triggerIncident x → s.anyReset = false →
    ∃ t, exec .triggerIncident s = .next t ∧
      let cause : Cause :=
        ⟨.software (field 0 1 x.args), .operator, s.clock.op, s.clock.cal, s.clock.valid⟩
      let opens := s.recorder.store = .ready ∧ s.chooseSlot.isSome = true ∧ s.recorder.lifetime < 4294967295
      let listed (xs : List Cause) : List Cause := if xs.length < 4 then xs ++ [cause] else xs
      (s.recorder.st = .idle → opens → Answered t x .done ∧ SequenceAsked .opening s t ∧
        OpenedFor cause [cause] 0 .operator
          (withEntry s (.trigger (.software (field 0 1 x.args)) 3 true) s.recorder.ring) s t) ∧
      (s.recorder.st = .idle → ¬opens → Answered t x .failed ∧ t.recorder.st = .idle ∧
        t.recorder.lifetime = s.recorder.lifetime ∧ t.recorder.unstored = satAdd 65535 s.recorder.unstored ∧
        t.recorder.lastUnstored = some cause ∧ t.recorder.stale = true ∧
        flagSet t.status.flags .storeAlert = true ∧ (s.recorder.store = .ready → HeaderAsked t)) ∧
      (s.recorder.st = .opening → ∀ i, s.recorder.incident = some i → Answered t x .done ∧
        t.recorder.incident = some { i with
          causes := listed i.causes
          further := if i.causes.length < 4 then i.further else satAdd 255 i.further
          cls := if i.cls = .test then .operator else i.cls }) ∧
      (s.recorder.st = .capturing → ∀ i, s.recorder.incident = some i → i.post.length + 1 < s.params.postCount →
        Answered t x .done ∧ t.recorder.incident.map Incident.causes = some (listed i.causes)) ∧
      (s.recorder.st = .closing ∨ s.recorder.st = .erasing → Answered t x .done ∧
        (s.recorder.waiting = none → t.recorder.waiting = some ⟨cause, [cause], 0, .operator⟩) ∧
        ∀ p, s.recorder.waiting = some p →
          t.recorder.waiting.map PendingTrigger.others = some (listed p.others))

/-- OPEN_SEQUENCE_END, CAPTURE_WINDOW_EXPIRY, CLOSE_ENTRY_WRITTEN and CLOSE_SEQUENCE_END take an incident from OPENING
through CAPTURING and CLOSING to IDLE, or on to the incident of the pending trigger (R164, R166 to R169, R173). While
CAPTURING each new trace entry goes to the post buffer too, and the one that fills it closes the incident, as a discarded
frame's entry does (R166). Entry to CLOSING asks for the CLOSE sequence, an opening for the OPEN sequence. That an incident
opened under a power-fail warning goes to CAPTURING where the warning has ended before the OPEN sequence does is the
model's choice (log 45). -/
def Obligations.IncidentPassesThroughItsStates : Prop :=
  let copied (k : TraceKind) (i : Incident) (s t : State) : Prop :=
    let more := { i with post := i.post ++ [⟨k, s.clock.op⟩] }
    (i.post.length + 1 < s.params.postCount → t.recorder.st = .capturing ∧ t.recorder.incident = some more) ∧
      (s.params.postCount ≤ i.post.length + 1 → t.recorder.st = .closing ∧ t.recorder.incident =
          some { more with closingMark := .normal, closingTime := s.clock.op, window := .stopped } ∧
        (s.recorder.store ≠ .fault → SequenceAsked .closing s t))
  (∀ k s, s.anyReset = false → Traced [k] s (trace k s) ∧
    (s.recorder.st ≠ .capturing → Frame [.ring] s (trace k s)) ∧
    ∀ i, s.recorder.st = .capturing → s.recorder.incident = some i → copied k i s (trace k s)) ∧
  (∀ s l bytes i, s.anyReset = false → s.rx.get l = [] → OneFrame bytes → judgeFrame l bytes = none →
    s.recorder.st = .capturing → s.recorder.incident = some i →
    ∃ t, exec (.frameDiscarded l bytes) s = .next t ∧ copied (.channel l .frameDiscarded) i s t) ∧
  (∀ s b i, StoreOnPort s b → b.part = .partialCrc → s.recorder.incident = some i →
    ∃ t, exec .openSequenceEnd s = .next t ∧
      let closing (m : ClosingMark) : Prop := t.recorder.st = .closing ∧ t.recorder.incident =
          some { i with closingMark := m, closingTime := s.clock.op, window := .stopped } ∧
        (s.recorder.store ≠ .fault → SequenceFollows .closing s t)
      let cut := i.truncated = true ∨ s.inputs.powerFail = true
      (cut → closing .truncated) ∧ (¬cut → s.params.postCount = 0 → closing .normal) ∧
      (¬cut → s.params.postCount ≠ 0 → t.recorder.st = .capturing ∧ t.recorder.incident =
        some { i with window := .running ((s.clock.op + s.params.captureWindow * 1000) % 2 ^ 32) })) ∧
    (∀ s i, s.recorder.st = .capturing → s.recorder.incident = some i → i.window.isRunning = true →
      ∃ t, exec .captureWindowExpiry s = .next t ∧ t.recorder.st = .closing ∧ t.recorder.incident =
          some { i with closingMark := .normal, closingTime := s.clock.op, window := .stopped } ∧
        (s.recorder.store ≠ .fault → SequenceAsked .closing s t)) ∧
    (∀ s b i k e, StoreOnPort s b → b.part = .closeEntry → b.sets = [(k, e)] → s.recorder.incident = some i →
      ∃ t, exec .closeEntryWritten s = .next t ∧ t.recorder.image = s.recorder.image.set k e ∧
        t.recorder.st = s.recorder.st ∧ t.recorder.incident = some i ∧ Reexamined s t ∧
        (i.cls = .serious → t.recorder.classCounts =
          { s.recorder.classCounts with serious := satAdd 65535 s.recorder.classCounts.serious }) ∧
        (i.cls = .advisory → t.recorder.classCounts =
          { s.recorder.classCounts with advisory := satAdd 65535 s.recorder.classCounts.advisory }) ∧
        (i.cls = .operator → t.recorder.classCounts =
          { s.recorder.classCounts with operator := satAdd 65535 s.recorder.classCounts.operator }) ∧
        (i.cls = .test → t.recorder.classCounts =
          { s.recorder.classCounts with test := satAdd 65535 s.recorder.classCounts.test })) ∧
    ∀ s b, StoreOnPort s b → b.part = .closeHeader →
      ∃ t, exec .closeSequenceEnd s = .next t ∧ t.recorder.waiting = none ∧
        (s.anyReset = false → flagSet t.status.flags .incidentClosed = true) ∧
        let stale := s.recorder.stale && b.written != s.currentHeader
        (s.recorder.waiting = none → t.recorder.st = .idle ∧ t.recorder.incident = none ∧ t.recorder.stale = stale) ∧
        ∀ p, s.recorder.waiting = some p →
          (Opens s → OpenedFor p.first p.others p.further p.cls s.recorder.ring s t ∧
            SequenceFollows .opening s t ∧ t.recorder.stale = stale) ∧
          (¬Opens s → t.recorder.st = .idle ∧ t.recorder.incident = none ∧ t.recorder.stale = true ∧
            t.recorder.lifetime = s.recorder.lifetime ∧
            t.recorder.unstored = satAdd 65535 s.recorder.unstored ∧ t.recorder.lastUnstored = some p.first ∧
            (s.anyReset = false → flagSet t.status.flags .storeAlert = true) ∧
            (s.recorder.store = .ready → HeaderAsked t))

/-- HEADER_SEQUENCE_DONE, ENTRY_SEQUENCE_DONE and ERASE_SEQUENCE_END: the header stale mark, the entries written, the
retention directive and the erase directive, and an erase that ends with a pending trigger (R167, R173, R178, R179,
R191; that nothing runs after HEADER_SEQUENCE_DONE with an empty queue also where the mark stays set is the model's
choice, log 47). What the sequences put out: their parts in order, each part's bytes (that a stamped cause's valid mark
is written 1 or 0 is the model's choice, log 19, and so is the byte 255 that an entry UNREADABLE or UNKNOWN, which
nothing writes, would have, log 52) and where they lie, their cut into bursts of up to 8 beats (the cut is the model's
choice, log 9; that a part is asked for as its first burst is presented, so that the close header has the bumped class
count before the entry part is complete, is log 10's), every burst inside the guarded window, and no burst presented but
those of the running sequence's parts (R158, R159, R163, R168, R173, R175, R177, R179, R208, section 12.8). -/
def Obligations.StoreSequencesEnd : Prop :=
  (∀ s b, StoreOnPort s b → b.part = .headerOnly →
    ∃ t, exec .headerSequenceDone s = .next t ∧
      t.recorder.stale = (s.recorder.stale && b.written != s.currentHeader) ∧
      (s.recorder.queue = [] → t.recorder.running = none)) ∧
    (∀ s b k m, StoreOnPort s b → b.part = .entryWrite k m →
      ∃ t, exec .entrySequenceDone s = .next t ∧ t.recorder.image = setEntries b.sets s.recorder.image ∧
        t.retention = { s.retention with inHand := none } ∧ Reexamined s t ∧
        (s.retention.inHand = none → t.decoder = s.decoder) ∧
        ∀ j mark x, s.retention.inHand = some (j, mark) → s.decoder.slot = some x →
          x.code = (if mark then .retainIncident else .releaseIncident) → Answered t x .done) ∧
    (∀ s b first keep, StoreOnPort s b → b.part = .eraseEntries first keep → s.params.slots ≤ first + 8 →
      ∃ t, exec .eraseSequenceEnd s = .next t ∧
        let image := setEntries b.sets s.recorder.image
        let erased : State := { s with recorder := { s.recorder with image := image } }
        let opens := image.any SlotEntry.eligible = true ∧ erased.chooseSlot.isSome = true ∧
          s.recorder.lifetime < 4294967295
        t.recorder.image = image ∧ t.recorder.waiting = none ∧
        t.recorder.store = (if image.any SlotEntry.eligible then .ready else .full) ∧
        (∀ x, s.decoder.slot = some x → x.code = .eraseStore → Answered t x .done) ∧
        (s.recorder.waiting = none → t.recorder.st = .idle ∧ t.recorder.incident = none ∧
          t.recorder.stale = false ∧ t.recorder.lifetime = s.recorder.lifetime) ∧
        ∀ p, s.recorder.waiting = some p →
          (opens → OpenedFor p.first p.others p.further p.cls t.recorder.ring erased t ∧
            (s.recorder.st = .erasing → SequenceFollows .opening s t) ∧ t.recorder.stale = false) ∧
          (¬opens → t.recorder.st = .idle ∧ t.recorder.incident = none ∧ t.recorder.stale = true ∧
            t.recorder.lifetime = s.recorder.lifetime ∧
            t.recorder.unstored = satAdd 65535 s.recorder.unstored ∧ t.recorder.lastUnstored = some p.first ∧
            (s.anyReset = false → flagSet t.status.flags .storeAlert = true) ∧
            (t.recorder.store = .ready → HeaderAsked t))) ∧
    (∀ n, Sequence.parts n .opening = [.openEntry, .openHeader, .slotHeader, .snapshot, .preEntries, .partialCrc] ∧
      Sequence.parts n .closing = [.postEntries, .footer, .closedBeat, .closeEntry, .closeHeader] ∧
      Sequence.parts n .header = [.headerOnly] ∧ (∀ k m, Sequence.parts n (.entry k m) = [.entryWrite k m]) ∧
      ∀ keep, Sequence.parts n (.erase keep) =
        .eraseHeader :: (List.range ((n + 7) / 8)).map fun j => .eraseEntries (8 * j) keep) ∧
    (∀ (s : State) (w : Window), s.windowOf .guarded = some w →
      let header (next : Nat) (c : ClassCounts) : List Byte := headerBytes s.params.slots next s.recorder.lifetime c
        s.recorder.unstored s.recorder.lastUnstored
      let entry (k : Nat) : Nat := w.base + 64 + 8 * k
      let slot (k : Nat) : Nat := w.base + 4096 + 2048 * k
      (∀ i, s.recorder.incident = some i →
        let opened : SlotEntry :=
          ⟨.opened, i.number, i.openingCls.code, i.openingCls == .serious && s.params.autoRetain⟩
        let closed : SlotEntry :=
          ⟨.closed, i.number, i.cls.code, i.retained || (i.cls == .serious && s.params.autoRetain)⟩
        s.partBursts .openEntry = writeBursts .openEntry (entry i.slot) opened.bytes [(i.slot, opened)] ∧
        s.partBursts .slotHeader = writeBursts .slotHeader (slot i.slot) i.slotHeader [] ∧
        s.partBursts .snapshot = writeBursts .snapshot (slot i.slot + 64) i.snapshot [] ∧
        s.partBursts .preEntries =
          writeBursts .preEntries (slot i.slot + 192) (i.pre.flatMap TraceEntry.bytes) [] ∧
        s.partBursts .partialCrc = writeBursts .partialCrc (slot i.slot + 960) i.partialBytes [] ∧
        s.partBursts .postEntries =
          writeBursts .postEntries (slot i.slot + 968) (i.post.flatMap TraceEntry.bytes) [] ∧
        s.partBursts .footer = writeBursts .footer (slot i.slot + 1352) i.footerBytes [] ∧
        s.partBursts .closedBeat =
          writeBursts .closedBeat (slot i.slot) (byte1 2 ++ zeros 3 ++ byte4 i.number) [] ∧
        s.partBursts .closeEntry = writeBursts .closeEntry (entry i.slot) closed.bytes [(i.slot, closed)] ∧
        s.partBursts .closeHeader = writeBursts .closeHeader w.base
          (header s.recorder.nextSlot (bumpClass s.recorder.classCounts i.cls)) []) ∧
      (∀ p, p = .openHeader ∨ p = .headerOnly ∨ p = .scanHeaderWrite → s.partBursts p =
        writeBursts p w.base (header s.recorder.nextSlot s.recorder.classCounts) []) ∧
      (∀ k m, let e : SlotEntry := { s.entryAt k with retained := m }
        s.partBursts (.entryWrite k m) = writeBursts (.entryWrite k m) (entry k) e.bytes [(k, e)]) ∧
      s.partBursts .eraseHeader = writeBursts .eraseHeader w.base (header 0 s.recorder.classCounts) [] ∧
      (∀ first keep, let keeps (e : SlotEntry) : Bool :=
          keep && e.retained && (e.state == .closed || e.state == .interrupted)
        let es := ((List.range 8).map (first + ·) |>.filter (· < s.params.slots)).map fun k =>
          (k, if keeps (s.entryAt k) then s.entryAt k else SlotEntry.mk .empty 0 0 false)
        s.partBursts (.eraseEntries first keep) =
          writeBursts (.eraseEntries first keep) (entry first) (es.flatMap fun x => x.2.bytes) es) ∧
      (∀ k n, s.partBursts (.repairBeat k n) =
        writeBursts (.repairBeat k n) (slot k) (byte1 3 ++ zeros 3 ++ byte4 n) []) ∧
      (∀ k e, s.partBursts (.repairEntry k e) = writeBursts (.repairEntry k e) (entry k) e.bytes [(k, e)]) ∧
      s.partBursts .scanHeader = [⟨.scanHeader, true, .read (BitVec.ofNat 32 w.base) 8, [], false⟩] ∧
      (∀ first, s.partBursts (.scanEntries first) = [⟨.scanEntries first, true,
        .read (BitVec.ofNat 32 (entry first)) (min 8 (s.params.slots - first)), [], false⟩]) ∧
      (∀ k, s.partBursts (.scanSlotHeader k) =
        [⟨.scanSlotHeader k, true, .read (BitVec.ofNat 32 (slot k)) 8, [], false⟩]) ∧
      ∀ k, s.partBursts (.scanFooter k) =
        [⟨.scanFooter k, false, .read (BitVec.ofNat 32 (slot k + 1352)) 8, [], false⟩,
          ⟨.scanFooter k, true, .read (BitVec.ofNat 32 (slot k + 1416)) 7, [], false⟩]) ∧
    StoreLaidOut ∧
    (∀ p addr (bs : List Byte) sets, (writeBursts p addr bs sets).length = (bs.length + 63) / 64 ∧
      ∀ j, 64 * j < bs.length → (writeBursts p addr bs sets)[j]? = some ⟨p, decide (bs.length ≤ 64 * j + 64),
        .write (BitVec.ofNat 32 (addr + 64 * j)) ((List.range (min 8 ((bs.length - 64 * j + 7) / 8))).map fun k =>
          ⟨beatOf (slice (64 * j + 8 * k) 8 bs),
            BitVec.ofNat 8 (2 ^ min 8 (bs.length - (64 * j + 8 * k)) - 1)⟩),
        if bs.length ≤ 64 * j + 64 then sets else [], false⟩) ∧
    (∀ (s : State) (w : Window) (p : Part) (b : StoreBurst), s.windowOf .guarded = some w →
      w.base + w.size ≤ 2 ^ 32 → s.params.slots ≤ 256 →
      4096 + 2048 * s.params.slots ≤ w.size → (∀ k, p.names = some k → k < s.params.slots) →
      (∀ i, s.recorder.incident = some i → i.slot < s.params.slots ∧ i.snapshot.length ≤ 128 ∧ i.pre.length ≤ 48 ∧
        i.post.length ≤ 24) → b ∈ s.partBursts p →
      b.part = p ∧ b.discard = false ∧ 1 ≤ txnLength b.burst ∧ txnLength b.burst ≤ 8 ∧
        w.base ≤ (txnAddr b.burst).toNat ∧
        (txnAddr b.burst).toNat + 8 * txnLength b.burst ≤ w.base + w.size) ∧
    ∀ s, (∀ b, (presentNext s).arb.store = some b → s.arb.store = some b ∨
        ∃ r, s.recorder.running = some r ∧ (b ∈ r.bursts ∨ ∃ p ∈ r.parts, b ∈ s.partBursts p)) ∧
      ∀ r', (presentNext s).recorder.running = some r' → ∃ r, s.recorder.running = some r ∧
        r'.sequence = r.sequence ∧ (∀ p ∈ r'.parts, p ∈ r.parts) ∧
        ∀ b ∈ r'.bursts, b ∈ r.bursts ∨ ∃ p ∈ r.parts, b ∈ s.partBursts p

/-- STORE_BURST_RESPONSE, SCAN_HEADER_READ, SCAN_ENTRY_READ and SCAN_END: what a part's completion enters in the image
and the counts, with eligibility examined again where an entry changed (R160), the stale mark that an OPEN sequence's
header clears, the header's checks, the entries as read, and the end of the scan, of which the loader hears (R159,
R163, R174 to R177; the retained mark of another byte is a free value, log 17). An OPEN entry is repaired by its slot
header and footer: written CLOSED with the footer's class, which is then counted, or INTERRUPTED after the first beat of
its slot (R175; that a CLOSED entry of no known class counts in none is the model's choice, log 32). Each burst of the
scan is presented at the grant of the one before it (R2), but for those that follow the header read, a read of entries or
the last burst of a footer, which depend on what was read; that, and the order of repairs and reads, is the model's choice
(log 11). Where the header as read differs from the record's values, the
header write is asked for (R176; which bytes are compared is the model's reading, log 36). -/
def Obligations.ScanReadsTheDirectory : Prop :=
  let ended (s t : State) (x : StoreState) : Prop :=
    t.recorder.store = x ∧ t.recorder.scan = none ∧
      (s.loader.st = .scanning →
        t.loader.st = .ready ∧ t.loader.result = ⟨.loaded, 0, some s.loader.origin⟩ ∧ t.loader.reached = false) ∧
      (x = .fault ∨ x = .full → s.recorder.store ≠ x → s.anyReset = false →
        flagSet t.status.flags .storeAlert = true)
  let byEligibility (s : State) : StoreState :=
    if s.recorder.image.any SlotEntry.eligible then .ready else .full
  (∀ s b d, StoreOnPort s b →
    ∃ t, exec (.storeBurstResponse d) s = .next t ∧
      (b.part = .slotHeader ∨ b.part = .snapshot ∨ b.part = .preEntries ∨ b.part = .postEntries ∨
        b.part = .footer ∨ b.part = .closedBeat ∨ (∃ k n, b.part = .repairBeat k n) → Frame portPieces s t) ∧
      (b.part = .openEntry → ∀ k e i, b.sets = [(k, e)] → s.recorder.incident = some i →
        t.recorder.image = s.recorder.image.set k e ∧
          t.recorder.incident = some { i with retained := e.retained } ∧ Reexamined s t) ∧
      (b.part = .openHeader → Frame (.directory :: portPieces) s t ∧ t.recorder.store = s.recorder.store ∧
        t.recorder.image = s.recorder.image ∧ t.recorder.nextSlot = s.recorder.nextSlot ∧
        t.recorder.stale = (s.recorder.stale && b.written != s.currentHeader)) ∧
      (∀ first keep, b.part = .eraseEntries first keep → first + 8 < s.params.slots →
        t.recorder.image = setEntries b.sets s.recorder.image ∧ Reexamined s t) ∧
      (b.part = .eraseHeader → t.recorder.nextSlot = 0 ∧ t.recorder.image = s.recorder.image) ∧
      (∀ k c, b.part = .scanSlotHeader k → s.recorder.scan = some c → Frame (.directory :: portPieces) s t ∧
        t.recorder.scan = some { c with slotBeat := slice 0 8 (beatsBytes d) }) ∧
      (∀ k c, b.part = .scanFooter k → b.last = false → s.recorder.scan = some c →
        t.recorder.scan = some { c with footerClass := field 0 1 (beatsBytes d) }) ∧
      (∀ k c r rest, b.part = .scanFooter k → b.last = true → s.recorder.scan = some c → c.repairs = r :: rest →
        s.recorder.running = some ⟨.scan, [], []⟩ → s.arb.store = none →
        let whole := field 0 1 c.slotBeat = 2 ∧ field 4 4 c.slotBeat = r.entry.number
        let cls := if 1 ≤ c.footerClass ∧ c.footerClass ≤ 4 then c.footerClass else r.entry.cls
        let next := match rest with
          | r' :: _ => [.scanSlotHeader r'.slot, .scanFooter r'.slot]
          | [] => if c.next < s.params.slots then [.scanEntries c.next] else []
        t.recorder.scan = some c ∧
        (whole → let e : SlotEntry :=
            ⟨.closed, r.entry.number, cls, r.entry.retained || (cls == 1 && s.params.autoRetain)⟩
          ScanAsked (.repairEntry r.slot e :: next) s t) ∧
        (¬whole → let e : SlotEntry := { r.entry with state := .interrupted }
          ScanAsked (.repairBeat r.slot r.entry.number :: .repairEntry r.slot e :: next) s t)) ∧
      (∀ k e c, b.part = .repairEntry k e → b.sets = [(k, e)] → s.recorder.scan = some c →
        t.recorder.image = s.recorder.image.set k e ∧
          t.recorder.scan = some { c with repairs := c.repairs.drop 1 } ∧
          (e.state ≠ .closed ∨ e.cls = 0 ∨ 4 < e.cls → t.recorder.classCounts = s.recorder.classCounts) ∧
          (e.state = .closed → ∀ x, x.code = e.cls →
            t.recorder.classCounts = bumpClass s.recorder.classCounts x))) ∧
    (∀ s b d, StoreOnPort s b → b.part = .scanHeader →
      ∃ t, exec (.scanHeaderRead d) s = .next t ∧
        let bs := beatsBytes d
        let passes := field 0 4 bs = 0x53544F31 ∧ checksumHolds (slice 0 64 bs) = true ∧
          field 4 2 bs = s.params.slots ∧ field 6 2 bs < s.params.slots
        (passes → t.recorder.nextSlot = field 6 2 bs ∧ t.recorder.store = s.recorder.store ∧
          t.recorder.scan.map Scan.header = (s.recorder.scan.map fun _ => bs) ∧
          ∀ c, s.recorder.scan = some c → c.repairs = [] → c.next < s.params.slots →
            s.recorder.running = some ⟨.scan, [], []⟩ → s.arb.store = none →
            ScanAsked [.scanEntries c.next] s t) ∧
        (¬passes → ended s t .fault ∧ t.recorder.image = s.recorder.image)) ∧
    (∀ s b d first, StoreOnPort s b → b.part = .scanEntries first →
      ∃ t, exec (.scanEntryRead d) s = .next t ∧ t.free = s.free + 1 ∧
        ∀ j beat, j < 8 → d[j]? = some beat → first + j < s.params.slots →
          first + j < s.recorder.image.length →
          let e := entryOf s.free (first + j) (beatBytes beat)
          (e.state ≠ .opened → t.recorder.image[first + j]? = some e) ∧
          (e.state = .opened → t.recorder.image[first + j]? = s.recorder.image[first + j]?)) ∧
    (∀ s b d first c, StoreOnPort s b → b.part = .scanEntries first → s.recorder.scan = some c →
      ∃ t c', exec (.scanEntryRead d) s = .next t ∧ t.recorder.scan = some c' ∧
        c' = { c with next := first + 8, repairs := c'.repairs } ∧
        c'.repairs.Pairwise (fun x y => x.slot < y.slot) ∧
        (∀ r : Repair, r ∈ c'.repairs ↔ ∃ j beat, j < 8 ∧ d[j]? = some beat ∧ first + j < s.params.slots ∧
          r = ⟨first + j, entryOf s.free (first + j) (beatBytes beat)⟩ ∧ r.entry.state = .opened) ∧
        (s.recorder.running = some ⟨.scan, [], []⟩ → s.arb.store = none →
          (∀ r rest, c'.repairs = r :: rest → ScanAsked [.scanSlotHeader r.slot, .scanFooter r.slot] s t) ∧
          (c'.repairs = [] → first + 8 < s.params.slots → ScanAsked [.scanEntries (first + 8)] s t))) ∧
    (∀ s o c, s.scanDue = true → s.recorder.scan = some c →
      ∃ t, exec (.scanEnd none o) s = .next t ∧
        let top := max s.recorder.lifetime (highestNumber s.recorder.image)
        t.recorder.lifetime = top ∧
        (headerAgrees { s with recorder := { s.recorder with lifetime := top } } c.header = true →
          ended s t (byEligibility s) ∧
            (byEligibility s = .ready → s.recorder.store ≠ .ready → s.recorder.stale = true → HeaderAsked t)) ∧
        (headerAgrees { s with recorder := { s.recorder with lifetime := top } } c.header = false →
          t.recorder.store = s.recorder.store ∧ t.recorder.scan = some c ∧ t.loader.st = s.loader.st ∧
            ∃ x ∈ ({ s with recorder := { s.recorder with lifetime := top } } : State).partBursts .scanHeaderWrite,
              StoreAsked t x)) ∧
    (∀ s o b, StoreOnPort s b → b.part = .scanHeaderWrite →
      ∃ t, exec (.scanEnd (some .ok) o) s = .next t ∧ ended s t (byEligibility s)) ∧
    ∀ s o b, StoreOnPort s b → b.part.ofScan = true →
      ∃ t, exec (.scanEnd (some .error) o) s = .next t ∧ ended s t .fault

/-- STORE_WRITE_FAULT: the store is in FAULT with STORE_ALERT set, the open incident is given up, the pending trigger is
unstored, nothing of the store runs or waits, and the directives of a failed sequence are answered FAILED (R160, R171,
R172). -/
def Obligations.StoreWriteFaultStopsTheStore : Prop :=
  ∀ s b o, StoreOnPort s b → b.part.ofScan = false →
    ∃ t, exec (.storeWriteFault o) s = .next t ∧ t.recorder.store = .fault ∧ t.recorder.st = .idle ∧
      t.recorder.incident = none ∧ t.recorder.waiting = none ∧ t.recorder.running = none ∧
      t.recorder.queue = [] ∧ t.arb.store = none ∧ t.recorder.image = s.recorder.image ∧
      t.recorder.lifetime = s.recorder.lifetime ∧ t.recorder.classCounts = s.recorder.classCounts ∧
      (s.anyReset = false → flagSet t.status.flags .storeAlert = true) ∧
      (s.recorder.waiting = none → t.recorder.unstored = s.recorder.unstored) ∧
      (∀ p, s.recorder.waiting = some p → t.recorder.unstored = satAdd 65535 s.recorder.unstored ∧
        t.recorder.lastUnstored = some p.first) ∧
      (∀ r keep x, s.recorder.running = some r → r.sequence = .erase keep → s.decoder.slot = some x →
        x.code = .eraseStore → Answered t x .failed) ∧
      ∀ q k m j mark x, s.recorder.running.map Running.sequence = some q ∨ q ∈ s.recorder.queue →
        q = .entry k m → s.retention.inHand = some (j, mark) → s.decoder.slot = some x →
        x.code = (if mark then .retainIncident else .releaseIncident) → Answered t x .failed ∧
          t.retention.inHand = none

/-! ### Inputs and clocks -/

/-- POWER_FAIL_WARNING, POWER_FAIL_WARNING_END, MILLISECOND_TICK and CALENDAR_WRAP: a warning marks or closes the open
incident; the operating time and the calendar go on, and at the carry out of 2099 the calendar starts again, invalid
(R139, R140, R170; that a tick can wrap as well is the model's choice, log 28). -/
def Obligations.ClocksAndTheWarningGoOn : Prop :=
  (∀ s, s.inputs.powerFail = false →
    ∃ t, exec .powerFailWarning s = .next t ∧ t.inputs = { s.inputs with powerFail := true } ∧
      (s.recorder.st = .opening → ∀ i, s.recorder.incident = some i →
        t.recorder.st = .opening ∧ t.recorder.incident = some { i with truncated := true }) ∧
      (s.recorder.st = .capturing → ∀ i, s.recorder.incident = some i →
        t.recorder.st = .closing ∧ t.recorder.incident =
            some { i with closingMark := .truncated, closingTime := s.clock.op, window := .stopped } ∧
          (s.recorder.store ≠ .fault → SequenceAsked .closing s t)) ∧
      (s.recorder.st ≠ .opening → s.recorder.st ≠ .capturing → Frame (.inputs :: portPieces) s t)) ∧
    (∀ s, ∃ t, exec .powerFailWarningEnd s = .next t ∧ t.inputs = { s.inputs with powerFail := false } ∧
      Frame (.inputs :: portPieces) s t) ∧
    (∀ s, s.clock.cal.year ≤ 2099 →
      ∃ t, exec .millisecondTick s = .next t ∧
        t.clock.op = (if s.inputs.powerOnReset then s.clock.op else (s.clock.op + 1) % 2 ^ 32) ∧
        let c := s.clock.cal
        (EndOf2099 c → t.clock.cal = .first ∧ t.clock.valid = false ∧
          (s.anyReset = false → flagSet t.status.flags .clockInvalid = true)) ∧
        (¬EndOf2099 c → t.clock.valid = s.clock.valid ∧ t.status.flags = s.status.flags ∧ t.clock.cal =
          if c.ms < 999 then { c with ms := c.ms + 1 }
          else if c.second < 59 then { c with ms := 0, second := c.second + 1 }
          else if c.minute < 59 then { c with ms := 0, second := 0, minute := c.minute + 1 }
          else if c.hour < 23 then { c with ms := 0, second := 0, minute := 0, hour := c.hour + 1 }
          else if c.day < monthLength c.year c.month then ⟨c.year, c.month, c.day + 1, 0, 0, 0, 0⟩
          else if c.month < 12 then ⟨c.year, c.month + 1, 1, 0, 0, 0, 0⟩
          else ⟨c.year + 1, 1, 1, 0, 0, 0, 0⟩)) ∧
    ∀ s sec, s.clock.cal = ⟨2099, 12, 31, 23, 59, sec, 999⟩ → sec = 59 ∨ sec = 60 →
      ∃ t, exec .calendarWrap s = .next t ∧ t.clock = ⟨s.clock.op, ⟨2000, 1, 1, 0, 0, 0, 0⟩, false⟩ ∧
        (s.anyReset = false → flagSet t.status.flags .clockInvalid = true)

/-! ### The directives of the recorder, the status unit and the retention unit -/

/-- ACKNOWLEDGE_FLAGS, SET_INDICATION, SET_TIME, ARM_TRIGGER_LINE and FREEZE: their effects and answers (R142, R151,
R188, R199, R203); and the attention, indication and fault lines, which follow the flags, the source with its activation
and invert, and CONFIG_FAULT (R201, R202, R204; that they are functions of State is the model's form, log 34). Of every
directive: out of reset the final result, once the slot is empty, has set the DIRECTIVE_DONE flag, which only ACKNOWLEDGE
FLAGS can have cleared again, and stands in the ring as a DIRECTIVE entry (R20). -/
def Obligations.PlainDirectivesTakeEffect : Prop :=
  (∀ c d s t x, (c, d) ∈ (.abortAirPathTest, .abortAirPathTest) :: directiveCommands → Awaits s d x →
    s.anyReset = false → s.decoder.aborts = [] → exec c s = .next t → t.decoder.slot = none →
    t.decoder.last.tag = x.tag ∧ t.decoder.last.code = d.code ∧
      ⟨.directive d.code x.tag t.decoder.last.result, s.clock.op⟩ ∈ t.recorder.ring ∧
      (d ≠ .acknowledgeFlags → flagSet t.status.flags .directiveDone = true)) ∧
  (∀ s x, Awaits s .acknowledgeFlags x →
    ∃ t, exec .acknowledgeFlags s = .next t ∧ Answered t x .done ∧
      (s.anyReset = false → t.status.flags =
        (s.status.flags ||| EventFlag.directiveDone.mask) &&& ~~~(BitVec.ofNat 16 (field 0 2 x.args)))) ∧
    (∀ s x, Awaits s .setIndication x →
      ∃ t, exec .setIndication s = .next t ∧
        (s.params.source = .direct → Answered t x .done ∧ t.status.direct = (field 0 1 x.args == 1)) ∧
        (s.params.source ≠ .direct → Answered t x .state ∧ t.status.direct = s.status.direct)) ∧
    (∀ s x, Awaits s .setTime x →
      ∃ t, exec .setTime s = .next t ∧ Answered t x .done ∧ t.clock = ⟨s.clock.op,
        ⟨field 0 2 x.args, field 2 1 x.args, field 3 1 x.args, field 4 1 x.args, field 5 1 x.args,
          field 6 1 x.args, 0⟩, true⟩) ∧
    (∀ s x l, Awaits s .armTriggerLine x → field 0 1 x.args = lineCode l →
      ∃ t, exec .armTriggerLine s = .next t ∧ Answered t x .done ∧
        t.lines.get l = { s.lines.get l with armed := true } ∧ ∀ j, j ≠ l → t.lines.get j = s.lines.get j) ∧
    (∀ s x, Awaits s .freeze x →
      ∃ t, exec .freeze s = .next t ∧ Answered t x .done ∧ t.retention = { s.retention with frozen := true }) ∧
    ∀ s : State, (s.attention = true ↔ s.inputs.powerOnReset = false ∧ s.inputs.coreReset = false ∧
        ∃ i, s.status.flags.getLsbD i = true ∧ s.params.enableSet.getLsbD i = true) ∧
      (let holds : Prop := match s.params.source with
        | .flag f => s.status.flags.getLsbD f.position = true
        | .latched => s.status.demandHanded = .penalty ∨ s.status.demandHanded = .emergency
        | .direct => s.status.direct = true
      s.indication = true ↔ s.inputs.powerOnReset = false ∧ s.inputs.coreReset = false ∧
        s.params.activation = 0x5A ∧ (holds ↔ s.params.invert = false)) ∧
      s.faultLine = s.loader.configFault

/-- The key check of the six key-bearing directives: FROZEN, LOCKED, UNSET and KEY in that order with the keys each
accepts, a KEY refusal counted and the fifth setting the lock; and the effects of SET_KEY, SET_RETENTION_LEVEL and
RESET_ATTRIBUTES once accepted (R183 to R187, R195). The attributes that RESET_ATTRIBUTES clears: what counts them, and at
the threshold EXCEEDED with the verdict, the flag and the trigger (R192 to R194). -/
def Obligations.KeysGuardTheirDirectives : Prop :=
  (∀ c d s x k, (c, d) ∈ directiveCommands → d.keyBearing = true → Awaits s d x → x.keyName = some k →
    ∃ t, exec c s = .next t ∧
      let frozen := s.retention.frozen = true ∧ d ≠ .releaseTraction
      let open' := ¬frozen ∧ s.retention.lock = false
      (frozen → Answered t x .frozen ∧ t.retention = s.retention) ∧
      (¬frozen → s.retention.lock = true → Answered t x .locked ∧ t.retention = s.retention) ∧
      (open' → s.retention.keyOf k = none → d ≠ .setKey → Answered t x .unset ∧ t.retention = s.retention) ∧
      ∀ v, open' → s.retention.keyOf k = some v → (d.accepts s.retention.strict k = false ∨ v ≠ x.key) →
        Answered t x .key ∧ t.retention = { s.retention with
          failed := satAdd 5 s.retention.failed
          lock := s.retention.lock || satAdd 5 s.retention.failed == 5 }) ∧
    (∀ strict k, (DirectiveCode.accepts strict k .releaseIncident = (k == .authority || !strict)) ∧
      (DirectiveCode.accepts strict k .eraseStore = (k == .authority || !strict)) ∧
      (DirectiveCode.accepts strict k .setRetentionLevel = (k == .authority)) ∧
      (DirectiveCode.accepts strict k .resetAttributes = (k == .maintenance)) ∧
      (DirectiveCode.accepts strict k .releaseTraction = (k == .maintenance)) ∧
      DirectiveCode.accepts strict k .setKey = true) ∧
    (∀ s x k, Awaits s .setKey x → s.retention.frozen = false → s.retention.lock = false → x.keyName = some k →
      s.retention.keyOf k = none ∨ s.retention.keyOf k = some x.key →
      ∃ t, exec .setKey s = .next t ∧ Answered t x .done ∧
        (∀ j, t.retention.keyOf j =
          if j = k then some (BitVec.ofNat 64 (field 0 8 x.args)) else s.retention.keyOf j) ∧
        t.retention.failed = if s.retention.keyOf k = none then s.retention.failed else 0) ∧
    (∀ s x, Awaits s .setRetentionLevel x → s.retention.frozen = false → s.retention.lock = false →
      x.keyName = some .authority → s.retention.authority = some x.key →
      ∃ t, exec .setRetentionLevel s = .next t ∧ Answered t x .done ∧
        t.retention = { s.retention with strict := field 0 1 x.args == 1, failed := 0 }) ∧
    (∀ s h, (s.anyReset = true → countHealth h s = s) ∧
      (s.anyReset = false →
        let n := satAdd 65535 (s.retention.counts.get h)
        let reached := s.retention.exceeded.get h = false ∧ (s.params.health.get h).threshold ≠ 0 ∧
          (s.params.health.get h).threshold ≤ n
        let t := countHealth h s
        t.retention.counts.get h = n ∧ (∀ j, j ≠ h → t.retention.counts.get j = s.retention.counts.get j) ∧
        (¬reached → t.retention.exceeded = s.retention.exceeded ∧ t.retention.verdict = s.retention.verdict ∧
          Frame [.health] s t) ∧
        (reached → t.retention.exceeded.get h = true ∧
          (∀ j, j ≠ h → t.retention.exceeded.get j = s.retention.exceeded.get j) ∧ VerdictShown t ∧
          flagSet t.status.flags .attributeExceeded = true ∧
          ∃ u, Frame (.health :: .flags :: tracePieces) s u ∧
            ⟨.trigger (.health h) 2 true, s.clock.op⟩ ∈ u.recorder.ring ∧
            Disposed (stampNow s (.health h) .advisory) u t))) ∧
    (∀ s, s.anyReset = false →
      let one (h : Health) (t : State) : Prop :=
        t.retention.counts = s.retention.counts.set h (satAdd 65535 (s.retention.counts.get h))
      let none (t : State) : Prop := t.retention.counts = s.retention.counts
      (∀ old new k, let t := reportCount old new s k
        (old.trucks.get k = .apply → new.trucks.get k = .dump → one .slideEpisodes t) ∧
        (old.trucks.get k ≠ .fault → new.trucks.get k = .fault → one .slideFaults t) ∧
        (old.trucks.get k = new.trucks.get k ∨ new.trucks.get k ≠ .fault ∧
          ¬(old.trucks.get k = .apply ∧ new.trucks.get k = .dump) → none t)) ∧
      (∀ k, let t := evalGrid k s
        let new := t.blend.grid.get k
        (new = s.blend.grid.get k ∨ new = .cool → none t) ∧
        (new ≠ s.blend.grid.get k → new = .derated → one .gridDerates t) ∧
        (new ≠ s.blend.grid.get k → new = .tripped → one .gridTrips t)) ∧
      one .tractionLosses (tractionLost s) ∧ one .airLosses (airLost s) ∧
      ∀ c, one .penalties (penaltyRequests c s)) ∧
    ∀ s x, Awaits s .resetAttributes x → s.retention.frozen = false → s.retention.lock = false →
      x.keyName = some .maintenance → s.retention.maintenance = some x.key →
      ∃ t, exec .resetAttributes s = .next t ∧ Answered t x .done ∧ t.retention = { s.retention with
        counts := Eight.all 0
        exceeded := Eight.all false
        verdict := .sound
        failed := 0 }

/-- ERASE_STORE, RETAIN_INCIDENT and RELEASE_INCIDENT: the rulings in their order, and where none refuses, the sequence
asked for and IN_PROGRESS (R177, R184, R189, R190). -/
def Obligations.StoreDirectivesAreRuledOn : Prop :=
  (∀ s x k, Awaits s .eraseStore x → s.retention.frozen = false → s.retention.lock = false → x.keyName = some k →
    s.retention.keyOf k = some x.key → k = .authority ∨ s.retention.strict = false →
    ∃ t, exec .eraseStore s = .next t ∧ t.retention = { s.retention with failed := 0 } ∧
      let busy := s.recorder.st ≠ .idle ∨ s.recorder.waiting.isSome = true ∨
        s.recorder.running.isSome = true ∨ s.recorder.queue ≠ []
      let early := s.recorder.store = .unchecked ∨ s.recorder.store = .scanning
      (busy → Answered t x .busy) ∧ (¬busy → early → Answered t x .state ∧ t.recorder.st = .idle) ∧
      (¬busy → ¬early → UnderWay t x ∧ t.recorder.st = .erasing ∧
        t.recorder.running.map Running.sequence = some (.erase (field 0 1 x.args == 1)))) ∧
    let ruled (s t : State) (x : Slot) (mark : Bool) : Prop :=
      let n := field 0 2 x.args
      let e := s.entryAt n
      let busy := s.recorder.st ≠ .idle ∧ s.recorder.st ≠ .capturing
      let ready := s.recorder.store = .ready ∨ s.recorder.store = .full
      let changes := (e.state = .closed ∨ e.state = .interrupted) ∧ e.retained ≠ mark
      (busy → Answered t x .busy) ∧ (¬busy → ¬(ready ∧ changes) → Answered t x .state) ∧
      (¬busy → ready → changes → UnderWay t x ∧ t.retention.inHand = some (n, mark) ∧
        (s.recorder.running = none → s.recorder.queue = [] →
          t.recorder.running.map Running.sequence = some (.entry n mark)))
    (∀ s x, Awaits s .retainIncident x →
      ∃ t, exec .retainIncident s = .next t ∧ ruled s t x true) ∧
    ∀ s x k, Awaits s .releaseIncident x → s.retention.frozen = false → s.retention.lock = false →
      x.keyName = some k → s.retention.keyOf k = some x.key → k = .authority ∨ s.retention.strict = false →
      ∃ t, exec .releaseIncident s = .next t ∧ t.retention.failed = 0 ∧ ruled s t x false

/-! ### What is written and read -/

/-- R205: the CRC, step by step. R206: the checksums, how the part checks them and how it writes them. -/
def Obligations.ChecksumsCoverTheirRuns : Prop :=
  let step (r : Nat) : Nat := if r % 2 = 1 then (r / 2) ^^^ 0xEDB88320 else r / 2
  let taken (r : Nat) (b : Byte) : Nat := (List.range 8).foldl (fun q _ => step q) (r ^^^ b.toNat)
  (∀ bs : List Byte, crc32 bs = bs.foldl taken 0xFFFFFFFF ^^^ 0xFFFFFFFF ∧ crc32 bs < 2 ^ 32) ∧
  crc32 [0x31, 0x32, 0x33, 0x34, 0x35, 0x36, 0x37, 0x38, 0x39] = 0xCBF43926 ∧
  let sum (bs : List Byte) : Nat := (bs.map BitVec.toNat).sum
  (∀ bs, checksumHolds bs = true ↔ sum bs % 256 = 0) ∧
    (∀ bs, checksumOf bs = if sum bs % 256 = 0 then 0 else 256 - sum bs % 256) ∧
    (∀ bs, sum (slice 0 16 bs) % 256 ≠ 0 → anchorGood bs = false) ∧
    (∀ a bs, (∃ n, configFailure a bs = some (.configChecksum, n)) ↔ sum (slice 0 512 bs) % 256 ≠ 0) ∧
    (∀ n bs, sum (slice 0 64 bs) % 256 ≠ 0 → headerPasses n bs = false) ∧
    (∀ n k bs, sum bs % 256 ≠ 0 → (entryOf n k bs).state = .unreadable) ∧
    (∀ e : SlotEntry, e.bytes.length = 8 ∧ sum e.bytes % 256 = 0) ∧
    ∀ n next lifetime c unstored last,
      (headerBytes n next lifetime c unstored last).length = 64 ∧
        sum (headerBytes n next lifetime c unstored last) % 256 = 0

/-- What is written reads back as it was: a directory entry with its number, class and mark, and a frame of each kind
that the links bring, with every value its fields admit, which a receiver takes as one whole frame (R115, R116, R175,
R209). The frames that the part sends have the kind, the sequence, the payload and the CRC of section 12.10
(R115). -/
def Obligations.EntriesAndFramesReadBackAsWritten : Prop :=
  (∀ n k (e : SlotEntry), e.state = .closed ∨ e.state = .interrupted ∨ e.state = .opened → e.number < 2 ^ 32 →
    e.cls < 256 → entryOf n k e.bytes = e) ∧
    (∀ n k, entryOf n k (SlotEntry.bytes ⟨.empty, 0, 0, false⟩) = ⟨.empty, 0, 0, false⟩) ∧
    (∀ seq n tm (v : Six Nat), n < 65536 → tm < 65536 → (∀ x, v.get x < 65536) →
      let f := frameBytes 0x51 seq (byte2 n ++ byte2 tm ++ v.toList.flatMap byte2)
      OneFrame f ∧ judgeFrame .speed f = some (.speedSample n tm v)) ∧
    (∀ seq echo a b, echo < 256 → a ≤ 600 → b ≤ 600 →
      let f := frameBytes 0x41 seq (byte1 echo ++ byte2 a ++ byte2 b)
      OneFrame f ∧ judgeFrame .air f = some (.airReport echo ⟨a, b⟩)) ∧
    (∀ seq echo, echo < 256 →
      let f := frameBytes 0x22 seq (byte1 echo)
      OneFrame f ∧ judgeFrame .traction f = some (.releaseAck echo)) ∧
    (∀ seq, (∀ v : Six Nat, FrameHolds 0x11 seq [(1, v.get .n1), (1, v.get .n2), (1, v.get .n3), (1, v.get .n4),
        (1, v.get .n5), (1, v.get .n6)] (dynCommandFrame seq v)) ∧
      FrameHolds 0x12 seq [] (releaseRequestFrame seq) ∧ FrameHolds 0x13 seq [] (resumeRequestFrame seq) ∧
      ∀ p : Pair Nat, FrameHolds 0x31 seq [(2, p.a), (2, p.b)] (airCommandFrame seq p)) ∧
    ∀ seq echo (d : DynData), echo < 256 → (∀ x, d.capability.get x ≤ 150) → (∀ x, d.achieved.get x ≤ 150) →
      (∀ k, d.temperature.get k ≤ 900) →
      let f := frameBytes 0x21 seq (byte1 echo ++ d.capability.toList.flatMap byte1 ++
        d.achieved.toList.flatMap byte1 ++ byte2 d.temperature.a ++ byte2 d.temperature.b ++ byte1 d.mode.code)
      OneFrame f ∧ judgeFrame .traction f = some (.dynReport echo d)

/-! ### Invariants -/

/-- Every invariant holds at State.reset. -/
def Obligations.InvariantsHoldAtReset : Prop :=
  Capacities State.reset ∧ DemandSound State.reset ∧ SlideSound State.reset ∧ ConfigSound State.reset ∧
    PressureBound State.reset ∧ IncidentSound State.reset ∧ ResetSound State.reset

/-- Every step keeps the capacities of the ring, the lists, the counts and the buffers. -/
def Obligations.EveryStepKeepsTheCapacities : Prop := ∀ s t, Capacities s → step s = .next t → Capacities t

/-- Every step keeps the demand supervisor's state with its latches, timers and effective demand; the vent line follows
the emergency state. -/
def Obligations.EveryStepKeepsTheDemandSound : Prop :=
  ∀ s t, DemandSound s → step s = .next t → DemandSound t ∧ (t.vent = true ↔ t.demand.st = .emergency)

/-- Every step keeps the slide unit's timers with the states they bound. -/
def Obligations.EveryStepKeepsTheSlideTimersSound : Prop := ∀ s t, SlideSound s → step s = .next t → SlideSound t

/-- Every step keeps a checked configuration in force, and with it the law that no truck is commanded above its blend
pressure and a penalty or an emergency gives at least the penalty pressure. -/
def Obligations.EveryStepKeepsThePressureLaw : Prop :=
  ∀ s t, ConfigSound s → PressureBound s → step s = .next t → ConfigSound t ∧ PressureBound t

/-- Every step keeps an incident open exactly in its states, its number within the lifetime count, and the lifetime
count never falls. -/
def Obligations.EveryStepKeepsTheIncidentsSound : Prop :=
  ∀ s t, IncidentSound s → step s = .next t → IncidentSound t ∧ s.recorder.lifetime ≤ t.recorder.lifetime

/-- Every step keeps a part in reset at rest. That no completed record, no reload request and no abort beside the slot
waits in a part under the core reset is the model's reading (log 31). -/
def Obligations.EveryStepKeepsResetAtRest : Prop := ∀ s t, ResetSound s → step s = .next t → ResetSound t
end

