-- ==== Sys2Proof/Laws/State.lean ====
section
/-! SUPPORT. One lemma for each field of each named update of State, and the reads after writes of the small families,
all true by rfl, so that no proof unfolds an update. -/

namespace Sys2Proof.Machine

section Families

variable {α : Type}

@[simp] theorem Pair.get_set_self (p : Pair α) (t : Truck) (v : α) : (p.set t v).get t = v := by cases t <;> rfl

theorem Pair.get_set_ne (p : Pair α) {t u : Truck} (v : α) (h : u ≠ t) : (p.set t v).get u = p.get u := by
  cases t <;> cases u <;> first | rfl | exact absurd rfl h

@[simp] theorem Pair.get_ofFn (f : Truck → α) (t : Truck) : (Pair.ofFn f).get t = f t := by cases t <;> rfl

@[simp] theorem Pair.get_mk_a (x y : α) : (Pair.mk x y).get .a = x := rfl

@[simp] theorem Pair.get_mk_b (x y : α) : (Pair.mk x y).get .b = y := rfl

@[simp] theorem Six.get_set_self (p : Six α) (x : Axle) (v : α) : (p.set x v).get x = v := by cases x <;> rfl

@[simp] theorem Six.get_ofFn (f : Axle → α) (x : Axle) : (Six.ofFn f).get x = f x := by cases x <;> rfl

@[simp] theorem Six.get_all (v : α) (x : Axle) : (Six.all v).get x = v := by cases x <;> rfl

@[simp] theorem Three.get_set_self (p : Three α) (l : Line) (v : α) : (p.set l v).get l = v := by cases l <;> rfl

theorem Three.get_set_ne (p : Three α) {l m : Line} (v : α) (h : m ≠ l) : (p.set l v).get m = p.get m := by
  cases l <;> cases m <;> first | rfl | exact absurd rfl h

@[simp] theorem Eight.get_set_self (p : Eight α) (h : Health) (v : α) : (p.set h v).get h = v := by cases h <;> rfl

theorem Eight.get_set_ne (p : Eight α) {h k : Health} (v : α) (n : k ≠ h) : (p.set h v).get k = p.get k := by
  cases h <;> cases k <;> first | rfl | exact absurd rfl n

@[simp] theorem Eight.get_ofFn (f : Health → α) (h : Health) : (Eight.ofFn f).get h = f h := by cases h <;> rfl

@[simp] theorem Eight.get_all (v : α) (h : Health) : (Eight.all v).get h = v := by cases h <;> rfl

end Families

/-! ### emit -/

@[simp] theorem emit_inputs (e : Emission) (s : State) : (emit e s).inputs = s.inputs := rfl

@[simp] theorem emit_params (e : Emission) (s : State) : (emit e s).params = s.params := rfl

@[simp] theorem emit_path (e : Emission) (s : State) : (emit e s).path = s.path := rfl

@[simp] theorem emit_arb (e : Emission) (s : State) : (emit e s).arb = s.arb := rfl

@[simp] theorem emit_decoder (e : Emission) (s : State) : (emit e s).decoder = s.decoder := rfl

@[simp] theorem emit_loader (e : Emission) (s : State) : (emit e s).loader = s.loader := rfl

@[simp] theorem emit_demand (e : Emission) (s : State) : (emit e s).demand = s.demand := rfl

@[simp] theorem emit_blend (e : Emission) (s : State) : (emit e s).blend = s.blend := rfl

@[simp] theorem emit_speed (e : Emission) (s : State) : (emit e s).speed = s.speed := rfl

@[simp] theorem emit_slide (e : Emission) (s : State) : (emit e s).slide = s.slide := rfl

@[simp] theorem emit_traction (e : Emission) (s : State) : (emit e s).traction = s.traction := rfl

@[simp] theorem emit_air (e : Emission) (s : State) : (emit e s).air = s.air := rfl

@[simp] theorem emit_rx (e : Emission) (s : State) : (emit e s).rx = s.rx := rfl

@[simp] theorem emit_clock (e : Emission) (s : State) : (emit e s).clock = s.clock := rfl

@[simp] theorem emit_lines (e : Emission) (s : State) : (emit e s).lines = s.lines := rfl

@[simp] theorem emit_recorder (e : Emission) (s : State) : (emit e s).recorder = s.recorder := rfl

@[simp] theorem emit_retention (e : Emission) (s : State) : (emit e s).retention = s.retention := rfl

@[simp] theorem emit_status (e : Emission) (s : State) : (emit e s).status = s.status := rfl

@[simp] theorem emit_free (e : Emission) (s : State) : (emit e s).free = s.free := rfl

@[simp] theorem emit_emitted (e : Emission) (s : State) : (emit e s).emitted = s.emitted ++ [e] := rfl

@[simp] theorem emit_pending (e : Emission) (s : State) : (emit e s).pending = s.pending := rfl

/-! ### freePort -/

@[simp] theorem freePort_inputs (s : State) : (freePort s).inputs = s.inputs := rfl

@[simp] theorem freePort_params (s : State) : (freePort s).params = s.params := rfl

@[simp] theorem freePort_path (s : State) : (freePort s).path = s.path := rfl

@[simp] theorem freePort_arb (s : State) : (freePort s).arb = { s.arb with port := none } := rfl

@[simp] theorem freePort_decoder (s : State) : (freePort s).decoder = s.decoder := rfl

@[simp] theorem freePort_loader (s : State) : (freePort s).loader = s.loader := rfl

@[simp] theorem freePort_demand (s : State) : (freePort s).demand = s.demand := rfl

@[simp] theorem freePort_blend (s : State) : (freePort s).blend = s.blend := rfl

@[simp] theorem freePort_speed (s : State) : (freePort s).speed = s.speed := rfl

@[simp] theorem freePort_slide (s : State) : (freePort s).slide = s.slide := rfl

@[simp] theorem freePort_traction (s : State) : (freePort s).traction = s.traction := rfl

@[simp] theorem freePort_air (s : State) : (freePort s).air = s.air := rfl

@[simp] theorem freePort_rx (s : State) : (freePort s).rx = s.rx := rfl

@[simp] theorem freePort_clock (s : State) : (freePort s).clock = s.clock := rfl

@[simp] theorem freePort_lines (s : State) : (freePort s).lines = s.lines := rfl

@[simp] theorem freePort_recorder (s : State) : (freePort s).recorder = s.recorder := rfl

@[simp] theorem freePort_retention (s : State) : (freePort s).retention = s.retention := rfl

@[simp] theorem freePort_status (s : State) : (freePort s).status = s.status := rfl

@[simp] theorem freePort_free (s : State) : (freePort s).free = s.free := rfl

@[simp] theorem freePort_emitted (s : State) : (freePort s).emitted = s.emitted := rfl

@[simp] theorem freePort_pending (s : State) : (freePort s).pending = s.pending := rfl

/-! ### dropStoreClaim -/

@[simp] theorem dropStoreClaim_inputs (s : State) : (dropStoreClaim s).inputs = s.inputs := rfl

@[simp] theorem dropStoreClaim_params (s : State) : (dropStoreClaim s).params = s.params := rfl

@[simp] theorem dropStoreClaim_path (s : State) : (dropStoreClaim s).path = s.path := rfl

@[simp] theorem dropStoreClaim_arb (s : State) : (dropStoreClaim s).arb = { s.arb with store := none } := rfl

@[simp] theorem dropStoreClaim_decoder (s : State) : (dropStoreClaim s).decoder = s.decoder := rfl

@[simp] theorem dropStoreClaim_loader (s : State) : (dropStoreClaim s).loader = s.loader := rfl

@[simp] theorem dropStoreClaim_demand (s : State) : (dropStoreClaim s).demand = s.demand := rfl

@[simp] theorem dropStoreClaim_blend (s : State) : (dropStoreClaim s).blend = s.blend := rfl

@[simp] theorem dropStoreClaim_speed (s : State) : (dropStoreClaim s).speed = s.speed := rfl

@[simp] theorem dropStoreClaim_slide (s : State) : (dropStoreClaim s).slide = s.slide := rfl

@[simp] theorem dropStoreClaim_traction (s : State) : (dropStoreClaim s).traction = s.traction := rfl

@[simp] theorem dropStoreClaim_air (s : State) : (dropStoreClaim s).air = s.air := rfl

@[simp] theorem dropStoreClaim_rx (s : State) : (dropStoreClaim s).rx = s.rx := rfl

@[simp] theorem dropStoreClaim_clock (s : State) : (dropStoreClaim s).clock = s.clock := rfl

@[simp] theorem dropStoreClaim_lines (s : State) : (dropStoreClaim s).lines = s.lines := rfl

@[simp] theorem dropStoreClaim_recorder (s : State) : (dropStoreClaim s).recorder = s.recorder := rfl

@[simp] theorem dropStoreClaim_retention (s : State) : (dropStoreClaim s).retention = s.retention := rfl

@[simp] theorem dropStoreClaim_status (s : State) : (dropStoreClaim s).status = s.status := rfl

@[simp] theorem dropStoreClaim_free (s : State) : (dropStoreClaim s).free = s.free := rfl

@[simp] theorem dropStoreClaim_emitted (s : State) : (dropStoreClaim s).emitted = s.emitted := rfl

@[simp] theorem dropStoreClaim_pending (s : State) : (dropStoreClaim s).pending = s.pending := rfl

/-! ### dropLoadClaim -/

@[simp] theorem dropLoadClaim_inputs (s : State) : (dropLoadClaim s).inputs = s.inputs := rfl

@[simp] theorem dropLoadClaim_params (s : State) : (dropLoadClaim s).params = s.params := rfl

@[simp] theorem dropLoadClaim_path (s : State) : (dropLoadClaim s).path = s.path := rfl

@[simp] theorem dropLoadClaim_arb (s : State) : (dropLoadClaim s).arb = { s.arb with load := none } := rfl

@[simp] theorem dropLoadClaim_decoder (s : State) : (dropLoadClaim s).decoder = s.decoder := rfl

@[simp] theorem dropLoadClaim_loader (s : State) : (dropLoadClaim s).loader = s.loader := rfl

@[simp] theorem dropLoadClaim_demand (s : State) : (dropLoadClaim s).demand = s.demand := rfl

@[simp] theorem dropLoadClaim_blend (s : State) : (dropLoadClaim s).blend = s.blend := rfl

@[simp] theorem dropLoadClaim_speed (s : State) : (dropLoadClaim s).speed = s.speed := rfl

@[simp] theorem dropLoadClaim_slide (s : State) : (dropLoadClaim s).slide = s.slide := rfl

@[simp] theorem dropLoadClaim_traction (s : State) : (dropLoadClaim s).traction = s.traction := rfl

@[simp] theorem dropLoadClaim_air (s : State) : (dropLoadClaim s).air = s.air := rfl

@[simp] theorem dropLoadClaim_rx (s : State) : (dropLoadClaim s).rx = s.rx := rfl

@[simp] theorem dropLoadClaim_clock (s : State) : (dropLoadClaim s).clock = s.clock := rfl

@[simp] theorem dropLoadClaim_lines (s : State) : (dropLoadClaim s).lines = s.lines := rfl

@[simp] theorem dropLoadClaim_recorder (s : State) : (dropLoadClaim s).recorder = s.recorder := rfl

@[simp] theorem dropLoadClaim_retention (s : State) : (dropLoadClaim s).retention = s.retention := rfl

@[simp] theorem dropLoadClaim_status (s : State) : (dropLoadClaim s).status = s.status := rfl

@[simp] theorem dropLoadClaim_free (s : State) : (dropLoadClaim s).free = s.free := rfl

@[simp] theorem dropLoadClaim_emitted (s : State) : (dropLoadClaim s).emitted = s.emitted := rfl

@[simp] theorem dropLoadClaim_pending (s : State) : (dropLoadClaim s).pending = s.pending := rfl

/-! ### clearFlags -/

@[simp] theorem clearFlags_inputs (m : BitVec 16) (s : State) : (clearFlags m s).inputs = s.inputs := rfl

@[simp] theorem clearFlags_params (m : BitVec 16) (s : State) : (clearFlags m s).params = s.params := rfl

@[simp] theorem clearFlags_path (m : BitVec 16) (s : State) : (clearFlags m s).path = s.path := rfl

@[simp] theorem clearFlags_arb (m : BitVec 16) (s : State) : (clearFlags m s).arb = s.arb := rfl

@[simp] theorem clearFlags_decoder (m : BitVec 16) (s : State) : (clearFlags m s).decoder = s.decoder := rfl

@[simp] theorem clearFlags_loader (m : BitVec 16) (s : State) : (clearFlags m s).loader = s.loader := rfl

@[simp] theorem clearFlags_demand (m : BitVec 16) (s : State) : (clearFlags m s).demand = s.demand := rfl

@[simp] theorem clearFlags_blend (m : BitVec 16) (s : State) : (clearFlags m s).blend = s.blend := rfl

@[simp] theorem clearFlags_speed (m : BitVec 16) (s : State) : (clearFlags m s).speed = s.speed := rfl

@[simp] theorem clearFlags_slide (m : BitVec 16) (s : State) : (clearFlags m s).slide = s.slide := rfl

@[simp] theorem clearFlags_traction (m : BitVec 16) (s : State) : (clearFlags m s).traction = s.traction := rfl

@[simp] theorem clearFlags_air (m : BitVec 16) (s : State) : (clearFlags m s).air = s.air := rfl

@[simp] theorem clearFlags_rx (m : BitVec 16) (s : State) : (clearFlags m s).rx = s.rx := rfl

@[simp] theorem clearFlags_clock (m : BitVec 16) (s : State) : (clearFlags m s).clock = s.clock := rfl

@[simp] theorem clearFlags_lines (m : BitVec 16) (s : State) : (clearFlags m s).lines = s.lines := rfl

@[simp] theorem clearFlags_recorder (m : BitVec 16) (s : State) : (clearFlags m s).recorder = s.recorder := rfl

@[simp] theorem clearFlags_retention (m : BitVec 16) (s : State) : (clearFlags m s).retention = s.retention := rfl

@[simp] theorem clearFlags_status (m : BitVec 16) (s : State) : (clearFlags m s).status = { s.status with flags := s.status.flags &&& ~~~ m } := rfl

@[simp] theorem clearFlags_free (m : BitVec 16) (s : State) : (clearFlags m s).free = s.free := rfl

@[simp] theorem clearFlags_emitted (m : BitVec 16) (s : State) : (clearFlags m s).emitted = s.emitted := rfl

@[simp] theorem clearFlags_pending (m : BitVec 16) (s : State) : (clearFlags m s).pending = s.pending := rfl

/-! ### setLine -/

@[simp] theorem setLine_inputs (l : Line) (f : LineState → LineState) (s : State) : (setLine l f s).inputs = s.inputs := rfl

@[simp] theorem setLine_params (l : Line) (f : LineState → LineState) (s : State) : (setLine l f s).params = s.params := rfl

@[simp] theorem setLine_path (l : Line) (f : LineState → LineState) (s : State) : (setLine l f s).path = s.path := rfl

@[simp] theorem setLine_arb (l : Line) (f : LineState → LineState) (s : State) : (setLine l f s).arb = s.arb := rfl

@[simp] theorem setLine_decoder (l : Line) (f : LineState → LineState) (s : State) : (setLine l f s).decoder = s.decoder := rfl

@[simp] theorem setLine_loader (l : Line) (f : LineState → LineState) (s : State) : (setLine l f s).loader = s.loader := rfl

@[simp] theorem setLine_demand (l : Line) (f : LineState → LineState) (s : State) : (setLine l f s).demand = s.demand := rfl

@[simp] theorem setLine_blend (l : Line) (f : LineState → LineState) (s : State) : (setLine l f s).blend = s.blend := rfl

@[simp] theorem setLine_speed (l : Line) (f : LineState → LineState) (s : State) : (setLine l f s).speed = s.speed := rfl

@[simp] theorem setLine_slide (l : Line) (f : LineState → LineState) (s : State) : (setLine l f s).slide = s.slide := rfl

@[simp] theorem setLine_traction (l : Line) (f : LineState → LineState) (s : State) : (setLine l f s).traction = s.traction := rfl

@[simp] theorem setLine_air (l : Line) (f : LineState → LineState) (s : State) : (setLine l f s).air = s.air := rfl

@[simp] theorem setLine_rx (l : Line) (f : LineState → LineState) (s : State) : (setLine l f s).rx = s.rx := rfl

@[simp] theorem setLine_clock (l : Line) (f : LineState → LineState) (s : State) : (setLine l f s).clock = s.clock := rfl

@[simp] theorem setLine_lines (l : Line) (f : LineState → LineState) (s : State) : (setLine l f s).lines = s.lines.set l (f (s.lines.get l)) := rfl

@[simp] theorem setLine_recorder (l : Line) (f : LineState → LineState) (s : State) : (setLine l f s).recorder = s.recorder := rfl

@[simp] theorem setLine_retention (l : Line) (f : LineState → LineState) (s : State) : (setLine l f s).retention = s.retention := rfl

@[simp] theorem setLine_status (l : Line) (f : LineState → LineState) (s : State) : (setLine l f s).status = s.status := rfl

@[simp] theorem setLine_free (l : Line) (f : LineState → LineState) (s : State) : (setLine l f s).free = s.free := rfl

@[simp] theorem setLine_emitted (l : Line) (f : LineState → LineState) (s : State) : (setLine l f s).emitted = s.emitted := rfl

@[simp] theorem setLine_pending (l : Line) (f : LineState → LineState) (s : State) : (setLine l f s).pending = s.pending := rfl

/-! ### updScan -/

@[simp] theorem updScan_inputs (f : Scan → Scan) (s : State) : (updScan f s).inputs = s.inputs := rfl

@[simp] theorem updScan_params (f : Scan → Scan) (s : State) : (updScan f s).params = s.params := rfl

@[simp] theorem updScan_path (f : Scan → Scan) (s : State) : (updScan f s).path = s.path := rfl

@[simp] theorem updScan_arb (f : Scan → Scan) (s : State) : (updScan f s).arb = s.arb := rfl

@[simp] theorem updScan_decoder (f : Scan → Scan) (s : State) : (updScan f s).decoder = s.decoder := rfl

@[simp] theorem updScan_loader (f : Scan → Scan) (s : State) : (updScan f s).loader = s.loader := rfl

@[simp] theorem updScan_demand (f : Scan → Scan) (s : State) : (updScan f s).demand = s.demand := rfl

@[simp] theorem updScan_blend (f : Scan → Scan) (s : State) : (updScan f s).blend = s.blend := rfl

@[simp] theorem updScan_speed (f : Scan → Scan) (s : State) : (updScan f s).speed = s.speed := rfl

@[simp] theorem updScan_slide (f : Scan → Scan) (s : State) : (updScan f s).slide = s.slide := rfl

@[simp] theorem updScan_traction (f : Scan → Scan) (s : State) : (updScan f s).traction = s.traction := rfl

@[simp] theorem updScan_air (f : Scan → Scan) (s : State) : (updScan f s).air = s.air := rfl

@[simp] theorem updScan_rx (f : Scan → Scan) (s : State) : (updScan f s).rx = s.rx := rfl

@[simp] theorem updScan_clock (f : Scan → Scan) (s : State) : (updScan f s).clock = s.clock := rfl

@[simp] theorem updScan_lines (f : Scan → Scan) (s : State) : (updScan f s).lines = s.lines := rfl

@[simp] theorem updScan_recorder (f : Scan → Scan) (s : State) : (updScan f s).recorder = { s.recorder with scan := s.recorder.scan.map f } := rfl

@[simp] theorem updScan_retention (f : Scan → Scan) (s : State) : (updScan f s).retention = s.retention := rfl

@[simp] theorem updScan_status (f : Scan → Scan) (s : State) : (updScan f s).status = s.status := rfl

@[simp] theorem updScan_free (f : Scan → Scan) (s : State) : (updScan f s).free = s.free := rfl

@[simp] theorem updScan_emitted (f : Scan → Scan) (s : State) : (updScan f s).emitted = s.emitted := rfl

@[simp] theorem updScan_pending (f : Scan → Scan) (s : State) : (updScan f s).pending = s.pending := rfl

/-! ### closeIncident -/

@[simp] theorem closeIncident_inputs (s : State) : (closeIncident s).inputs = s.inputs := rfl

@[simp] theorem closeIncident_params (s : State) : (closeIncident s).params = s.params := rfl

@[simp] theorem closeIncident_path (s : State) : (closeIncident s).path = s.path := rfl

@[simp] theorem closeIncident_arb (s : State) : (closeIncident s).arb = s.arb := rfl

@[simp] theorem closeIncident_decoder (s : State) : (closeIncident s).decoder = s.decoder := rfl

@[simp] theorem closeIncident_loader (s : State) : (closeIncident s).loader = s.loader := rfl

@[simp] theorem closeIncident_demand (s : State) : (closeIncident s).demand = s.demand := rfl

@[simp] theorem closeIncident_blend (s : State) : (closeIncident s).blend = s.blend := rfl

@[simp] theorem closeIncident_speed (s : State) : (closeIncident s).speed = s.speed := rfl

@[simp] theorem closeIncident_slide (s : State) : (closeIncident s).slide = s.slide := rfl

@[simp] theorem closeIncident_traction (s : State) : (closeIncident s).traction = s.traction := rfl

@[simp] theorem closeIncident_air (s : State) : (closeIncident s).air = s.air := rfl

@[simp] theorem closeIncident_rx (s : State) : (closeIncident s).rx = s.rx := rfl

@[simp] theorem closeIncident_clock (s : State) : (closeIncident s).clock = s.clock := rfl

@[simp] theorem closeIncident_lines (s : State) : (closeIncident s).lines = s.lines := rfl

@[simp] theorem closeIncident_recorder (s : State) : (closeIncident s).recorder = { s.recorder with incident := none, st := .idle } := rfl

@[simp] theorem closeIncident_retention (s : State) : (closeIncident s).retention = s.retention := rfl

@[simp] theorem closeIncident_status (s : State) : (closeIncident s).status = s.status := rfl

@[simp] theorem closeIncident_free (s : State) : (closeIncident s).free = s.free := rfl

@[simp] theorem closeIncident_emitted (s : State) : (closeIncident s).emitted = s.emitted := rfl

@[simp] theorem closeIncident_pending (s : State) : (closeIncident s).pending = s.pending := rfl

end Sys2Proof.Machine
end

