-- ==== Sys2Proof/Laws/Frames.lean ====
section
/-! SUPPORT. Frames: their composition, and for each shared operation of the flags, the store, the arbiter and the
recorder the pieces of State it may move. -/

namespace Sys2Proof.Machine

variable {s t u : State} {l m : List Piece}

/-! ### Composition -/

theorem Piece.same_refl (p : Piece) (s : State) : p.same s s := by cases p <;> simp [Piece.same]

theorem Piece.same_trans {p : Piece} (h : p.same s t) (k : p.same t u) : p.same s u := by
  cases p <;> simp_all [Piece.same]

theorem Frame.refl : Frame l s s := ⟨fun p _ => p.same_refl s⟩

theorem Frame.trans (h : Frame l s t) (k : Frame l t u) : Frame l s u :=
  ⟨fun p hp => Piece.same_trans (h.same p hp) (k.same p hp)⟩

theorem Frame.mono (h : Frame l s t) (k : ∀ p ∈ l, p ∈ m) : Frame m s t :=
  ⟨fun p hp => h.same p fun q => hp (k p q)⟩

theorem Frame.ite {b : Prop} [Decidable b] {t u : State} (h : b → Frame l s t) (k : ¬ b → Frame l s u) :
    Frame l s (if b then t else u) := by split <;> simp_all

theorem Frame.inputs_eq (h : Frame l s t) (k : Piece.inputs ∉ l) : t.inputs = s.inputs := h.same _ k

theorem Frame.anyReset_eq (h : Frame l s t) (k : Piece.inputs ∉ l) : t.anyReset = s.anyReset := by
  simp [State.anyReset, h.inputs_eq k]

/-! ### Flags and outputs -/

theorem setFlag_frame (f : EventFlag) (s : State) : Frame [.flags] s (setFlag f s) := by
  refine Frame.ite (fun _ => Frame.refl) fun _ => ⟨fun p hp => ?_⟩
  cases p <;> first | exact absurd (by decide) hp | simp [Piece.same]

theorem clearFlags_frame (n : BitVec 16) (s : State) : Frame [.flags] s (clearFlags n s) := by
  refine ⟨fun p hp => ?_⟩
  cases p <;> first | exact absurd (by decide) hp | simp [Piece.same]

theorem emit_frame (e : Emission) (s : State) : Frame [.emitted] s (emit e s) := by
  refine ⟨fun p hp => ?_⟩
  cases p <;> first | exact absurd (by decide) hp | simp [Piece.same]

theorem freePort_frame (s : State) : Frame [.arbiter] s (freePort s) := by
  refine ⟨fun p hp => ?_⟩
  cases p <;> first | exact absurd (by decide) hp | simp [Piece.same]

theorem setLine_frame (n : Line) (f : LineState → LineState) (s : State) : Frame [.lines] s (setLine n f s) := by
  refine ⟨fun p hp => ?_⟩
  cases p <;> first | exact absurd (by decide) hp | simp [Piece.same]

/-! ### Write sequences -/

theorem presentStore_frame (q : Sequence) (ps : List Part) (b : StoreBurst) (bs : List StoreBurst) (s : State) :
    Frame [.arbiter, .sequences] s (presentStore q ps b bs s) := by
  refine ⟨fun p hp => ?_⟩
  cases p <;> first | exact absurd (by decide) hp | simp [Piece.same, presentStore]

theorem setRunning_frame (r : Option Running) (s : State) :
    Frame [.arbiter, .sequences] s { s with recorder := { s.recorder with running := r } } := by
  refine ⟨fun p hp => ?_⟩
  cases p <;> first | exact absurd (by decide) hp | simp [Piece.same]

theorem setQueue_frame (q : List Sequence) (s : State) :
    Frame [.arbiter, .sequences] s { s with recorder := { s.recorder with queue := q } } := by
  refine ⟨fun p hp => ?_⟩
  cases p <;> first | exact absurd (by decide) hp | simp [Piece.same]

theorem askPart_frame (q : Sequence) (ps : List Part) (s : State) :
    Frame [.arbiter, .sequences] s (askPart q ps s) := by
  induction ps with
  | nil => exact setRunning_frame _ s
  | cons p ps ih =>
    rw [askPart]
    split
    · exact ih
    · exact presentStore_frame ..

theorem presentNext_frame (s : State) : Frame [.arbiter, .sequences] s (presentNext s) := by
  unfold presentNext
  split
  · exact Frame.refl
  · split
    · exact Frame.refl
    · split
      · exact presentStore_frame ..
      · exact askPart_frame ..

theorem startSequence_frame (q : Sequence) (s : State) : Frame [.arbiter, .sequences] s (startSequence q s) :=
  (setRunning_frame _ s).trans (presentNext_frame _)

theorem startWaiting_frame (s : State) : Frame [.arbiter, .sequences] s (startWaiting s) := by
  unfold startWaiting
  split
  · exact (setQueue_frame _ s).trans (startSequence_frame ..)
  · exact Frame.refl

theorem askSequence_frame (q : Sequence) (s : State) : Frame [.arbiter, .sequences] s (askSequence q s) :=
  Frame.ite (fun _ => Frame.refl) fun _ => (setQueue_frame _ s).trans (startWaiting_frame _)

theorem askHeader_frame (s : State) : Frame [.arbiter, .sequences] s (askHeader s) :=
  Frame.ite (fun _ => Frame.refl) fun _ => askSequence_frame ..

theorem endSequence_frame (s : State) : Frame [.arbiter, .sequences] s (endSequence s) :=
  (setRunning_frame _ s).trans (startWaiting_frame _)

theorem askScanParts_frame (ps : List Part) (s : State) : Frame [.arbiter, .sequences] s (askScanParts ps s) := by
  unfold askScanParts
  split
  · exact (setRunning_frame _ s).trans (presentNext_frame _)
  · exact Frame.refl

/-! ### The directory image and the store state -/

/-- What a change of the store state may move (R160). -/
def storePieces : List Piece := [.directory, .flags, .arbiter, .sequences]

theorem setStore_frame (x : StoreState) (s : State) :
    Frame storePieces s { s with recorder := { s.recorder with store := x } } := by
  refine ⟨fun p hp => ?_⟩
  cases p <;> first | exact absurd (by decide) hp | simp [Piece.same]

theorem enterStore_frame (x : StoreState) (s : State) : Frame storePieces s (enterStore x s) := by
  refine Frame.ite (fun _ => Frame.refl) fun _ => (setStore_frame x s).trans ?_
  cases x
  · exact Frame.refl
  · exact Frame.refl
  · exact Frame.ite (fun _ => (askHeader_frame _).mono (by decide)) fun _ => Frame.refl
  · exact (setFlag_frame ..).mono (by decide)
  · exact (setFlag_frame ..).mono (by decide)

theorem reexamine_frame (s : State) : Frame storePieces s (reexamine s) :=
  Frame.ite (fun _ => enterStore_frame ..) fun _ => Frame.refl

theorem applySets_frame (b : StoreBurst) (s : State) : Frame [.directory] s (applySets b s) := by
  refine ⟨fun p hp => ?_⟩
  cases p <;> first | exact absurd (by decide) hp | simp [Piece.same, applySets]

theorem clearStale_frame (b : StoreBurst) (s : State) : Frame [.directory] s (clearStale b s) := by
  refine Frame.ite (fun _ => ⟨fun p hp => ?_⟩) fun _ => Frame.refl
  cases p <;> first | exact absurd (by decide) hp | simp [Piece.same]

/-! ### The arbiter (R14) -/

theorem presentLoad_frame (s : State) : Frame portPieces s (presentLoad s) := by
  unfold presentLoad
  split
  · refine ⟨fun p hp => ?_⟩
    cases p <;> first | exact absurd (by decide) hp | simp [Piece.same]
  · exact Frame.refl

theorem setArb_frame (a : Arbiter) (s : State) : Frame portPieces s { s with arb := a } := by
  refine ⟨fun p hp => ?_⟩
  cases p <;> first | exact absurd (by decide) hp | simp [Piece.same]

theorem grantLoad_frame (b : LoadBurst) (s : State) : Frame portPieces s (grantLoad b s) :=
  ((setArb_frame _ s).trans ((emit_frame ..).mono (by decide))).trans (presentLoad_frame _)

theorem grantStore_frame (b : StoreBurst) (s : State) : Frame portPieces s (grantStore b s) :=
  ((setArb_frame _ s).trans ((emit_frame ..).mono (by decide))).trans ((presentNext_frame _).mono (by decide))

theorem grantPass_frame (t : Transaction) (s : State) : Frame portPieces s (grantPass t s) :=
  (setArb_frame _ s).trans ((emit_frame ..).mono (by decide))

theorem arbitrate_frame (s : State) : Frame portPieces s (arbitrate s) := by
  unfold arbitrate
  split
  · exact Frame.refl
  · split <;> first | exact Frame.refl | (split <;> first | exact Frame.refl | apply grantLoad_frame | apply grantStore_frame | apply grantPass_frame)

/-- What granting the port leaves, field by field. -/
theorem arbitrate_keeps (s : State) :
    (arbitrate s).inputs = s.inputs ∧ (arbitrate s).params = s.params ∧ (arbitrate s).path = s.path ∧
      (arbitrate s).decoder = s.decoder ∧ (arbitrate s).demand = s.demand ∧ (arbitrate s).blend = s.blend ∧
      (arbitrate s).speed = s.speed ∧ (arbitrate s).slide = s.slide ∧ (arbitrate s).traction = s.traction ∧
      (arbitrate s).air = s.air ∧ (arbitrate s).rx = s.rx ∧ (arbitrate s).clock = s.clock ∧
      (arbitrate s).lines = s.lines ∧ (arbitrate s).retention = s.retention ∧ (arbitrate s).status = s.status ∧
      (arbitrate s).free = s.free ∧ (arbitrate s).pending = s.pending := by
  have h := arbitrate_frame s
  have d : (arbitrate s).decoder = s.decoder := by
    have a := h.same .assembly (by decide)
    have b := h.same .slot (by decide)
    have c := h.same .lastResult (by decide)
    simp only [Piece.same] at a b c
    cases hd : (arbitrate s).decoder
    cases hs : s.decoder
    simp_all
  have r : (arbitrate s).retention = s.retention := by
    have a := h.same .keys (by decide)
    have b := h.same .health (by decide)
    simp only [Piece.same] at a b
    cases hd : (arbitrate s).retention
    cases hs : s.retention
    simp_all
  have q : (arbitrate s).status = s.status := by
    have a := h.same .flags (by decide)
    have b := h.same .directLevel (by decide)
    have c := h.same .demandHanded (by decide)
    simp only [Piece.same] at a b c
    cases hd : (arbitrate s).status
    cases hs : s.status
    simp_all
  exact ⟨h.same .inputs (by decide), h.same .params (by decide), h.same .path (by decide), d, h.same .demand (by decide),
    h.same .blend (by decide), h.same .speed (by decide), h.same .slide (by decide), h.same .traction (by decide), h.same .air (by decide),
    h.same .receivers (by decide), h.same .clock (by decide), h.same .lines (by decide), r, q, h.same .free (by decide),
    h.same .pending (by decide)⟩

/-- The recorder under a grant: at most the running sequence moves. -/
theorem arbitrate_recorder (s : State) :
    (arbitrate s).recorder = { s.recorder with running := (arbitrate s).recorder.running } := by
  have h := arbitrate_frame s
  unfold arbitrate
  split
  · rfl
  · split
    · split
      · simp only [grantLoad, presentLoad]
        split <;> rfl
      · rfl
    · split
      · simp only [grantStore, presentNext]
        split
        · rfl
        · split
          · rfl
          · split
            · rfl
            · generalize hp : (_ : Running).parts = ps
              clear hp
              induction ps with
              | nil => rfl
              | cons p ps ih =>
                rw [askPart]
                split
                · exact ih
                · rfl
      · rfl
    · split <;> rfl
    · rfl

/-! ### The ring and triggers -/

theorem enterClosing_frame (x : ClosingMark) (s : State) : Frame tracePieces s (enterClosing x s) := by
  refine Frame.trans (t := { s with recorder := { s.recorder with
    st := .closing
    incident := s.recorder.incident.map fun i =>
      { i with closingMark := x, closingTime := s.clock.op, window := .stopped } } }) ⟨fun p hp => ?_⟩
    ((askSequence_frame ..).mono (by decide))
  cases p <;> first | exact absurd (by decide) hp | simp [Piece.same]

theorem setIncident_frame (i : Option Incident) (s : State) :
    Frame tracePieces s { s with recorder := { s.recorder with incident := i } } := by
  refine ⟨fun p hp => ?_⟩
  cases p <;> first | exact absurd (by decide) hp | simp [Piece.same]

theorem offerEntry_frame (e : TraceEntry) (s : State) : Frame tracePieces s (offerEntry e s) := by
  unfold offerEntry
  split
  · exact Frame.ite (fun _ => (setIncident_frame _ s).trans (enterClosing_frame ..)) fun _ => setIncident_frame _ s
  · exact Frame.refl

theorem setRing_frame (r : List TraceEntry) (s : State) :
    Frame tracePieces s { s with recorder := { s.recorder with ring := r } } := by
  refine ⟨fun p hp => ?_⟩
  cases p <;> first | exact absurd (by decide) hp | simp [Piece.same]

theorem trace_frame (k : TraceKind) (s : State) : Frame tracePieces s (trace k s) :=
  Frame.ite (fun _ => Frame.refl) fun _ => (setRing_frame _ s).trans (offerEntry_frame ..)

theorem setRecorder_frame (r : Recorder) (s : State) : Frame triggerPieces s { s with recorder := r } := by
  refine ⟨fun p hp => ?_⟩
  cases p <;> first | exact absurd (by decide) hp | simp [Piece.same]

theorem openIncident_frame (x : Cause) (xs : List Cause) (n : Nat) (c : IncidentClass) (s : State) :
    Frame triggerPieces s (openIncident x xs n c s) := by
  refine Frame.trans ?_ ((askSequence_frame ..).mono (by decide))
  exact setRecorder_frame _ s

theorem unstored_frame (x : Cause) (s : State) : Frame triggerPieces s (unstored x s) := by
  have a : Frame triggerPieces s { s with recorder := { s.recorder with
      unstored := satAdd 65535 s.recorder.unstored, lastUnstored := some x, stale := true } } :=
    setRecorder_frame _ s
  have b := a.trans ((setFlag_frame .storeAlert _).mono (by decide))
  exact Frame.ite (fun _ => b.trans ((askHeader_frame _).mono (by decide))) fun _ => b

theorem assemble_frame (x : Cause) (s : State) : Frame triggerPieces s (assemble x s) := by
  unfold assemble
  split
  · exact openIncident_frame ..
  · exact (setIncident_frame _ s).mono (by decide)
  · exact setRecorder_frame _ s
  · exact unstored_frame ..

theorem traceTrigger_frame (x : Cause) (s : State) : Frame tracePieces s (traceTrigger x s) := trace_frame ..

theorem raise_frame (c : TriggerCause) (k : IncidentClass) (s : State) : Frame triggerPieces s (raise c k s) :=
  Frame.ite (fun _ => Frame.refl) fun _ => ((traceTrigger_frame ..).mono (by decide)).trans (assemble_frame ..)

theorem trigger_frame (c : TriggerCause) (s : State) : Frame triggerPieces s (trigger c s) := raise_frame ..

theorem disposePending_frame (s : State) : Frame triggerPieces s (disposePending s) := by
  cases h : s.recorder.waiting with
  | none => simp only [disposePending, h]; exact Frame.refl
  | some x =>
    have a := setRecorder_frame { s.recorder with waiting := none } s
    simp only [disposePending, h]
    exact a.trans (Frame.ite (fun _ => openIncident_frame ..) fun _ => unstored_frame ..)

theorem setHealth_frame (c : Eight Nat) (e : Eight Bool) (v : Verdict) (s : State) :
    Frame [.health] s { s with retention := { s.retention with counts := c, exceeded := e, verdict := v } } := by
  refine ⟨fun p hp => ?_⟩
  cases p <;> first | exact absurd (by decide) hp | simp [Piece.same]

/-- R193: a status that goes to EXCEEDED, with its requests. -/
theorem exceed_frame (h : Health) (e : Eight Bool) (v : Verdict) (s : State) :
    Frame requestPieces s (trigger (.health h) (setFlag .attributeExceeded
      { s with retention := { s.retention with exceeded := e, verdict := v } })) :=
  (((setHealth_frame s.retention.counts e v s).mono (by decide)).trans ((setFlag_frame ..).mono (by decide))).trans
    ((trigger_frame ..).mono (by decide))

theorem countHealth_frame (h : Health) (s : State) : Frame requestPieces s (countHealth h s) := by
  refine Frame.ite (fun _ => Frame.refl) fun _ => ?_
  have a : Frame requestPieces s { s with retention := { s.retention with
      counts := s.retention.counts.set h (satAdd 65535 (s.retention.counts.get h)) } } :=
    (setHealth_frame _ s.retention.exceeded s.retention.verdict s).mono (by decide)
  exact a.trans (Frame.ite (fun _ => exceed_frame ..) fun _ => Frame.refl)

/-! ### Results of directives -/

theorem publish_frame (n c : Nat) (r : DirResult) (s : State) : Frame resultPieces s (publish n c r s) := by
  refine Frame.trans (t := { s with decoder := { s.decoder with last := ⟨n, c, r⟩ } }) ⟨fun p hp => ?_⟩
    (((setFlag_frame ..).mono (by decide)).trans ((trace_frame ..).mono (by decide)))
  cases p <;> first | exact absurd (by decide) hp | simp [Piece.same]

theorem setSlot_frame (d : Decoder) (h : d.asm = s.decoder.asm) : Frame resultPieces s { s with decoder := d } := by
  refine ⟨fun p hp => ?_⟩
  cases p <;> first | exact absurd (by decide) hp | simp [Piece.same, h]

theorem finish_frame (c : DirectiveCode) (r : DirResult) (s : State) : Frame resultPieces s (finish c r s) := by
  unfold finish
  split
  · exact Frame.ite (fun _ => Frame.trans (setSlot_frame _ (by simp)) (publish_frame ..)) fun _ => Frame.refl
  · exact Frame.refl

theorem inProgress_frame (s : State) : Frame [.slot, .lastResult] s (inProgress s) := by
  unfold inProgress
  split
  · refine ⟨fun p hp => ?_⟩
    cases p <;> first | exact absurd (by decide) hp | simp [Piece.same]
  · exact Frame.refl

end Sys2Proof.Machine
end

