-- ==== Sys2Proof/Laws/Brake.lean ====
section
/-! SUPPORT. Frames of the slide unit, the actuator link unit, the blend unit and the demand supervisor: which pieces
of State each of their shared operations may move. -/

namespace Sys2Proof.Machine

/-! ### Slide unit -/

/-- What an event of the slide unit may move, short of its hand-off to the blend unit. -/
def slidePieces : List Piece := requestPieces ++ [.slide]

theorem setSlide_frame (u : SlideUnit) (s : State) : Frame [.slide] s { s with slide := u } := by
  refine ⟨fun p hp => ?_⟩
  cases p <;> first | exact absurd (by decide) hp | simp [Piece.same]

theorem reportAxle_frame (o n : SlideUnit) (s : State) (x : Axle) : Frame tracePieces s (reportAxle o n s x) :=
  Frame.ite (fun _ => Frame.refl) fun _ => trace_frame ..

theorem reportTruck_frame (o n : SlideUnit) (s : State) (t : Truck) : Frame tracePieces s (reportTruck o n s t) :=
  Frame.ite (fun _ => Frame.refl) fun _ => trace_frame ..

theorem reportCount_frame (o n : SlideUnit) (s : State) (t : Truck) :
    Frame requestPieces s (reportCount o n s t) := by
  refine Frame.ite (fun _ => Frame.refl) fun _ => ?_
  split <;> first | exact countHealth_frame .. | exact Frame.refl

theorem reportFlag_frame (o n : SlideUnit) (s : State) (t : Truck) : Frame [.flags] s (reportFlag o n s t) := by
  refine Frame.ite (fun _ => Frame.refl) fun _ => ?_
  split <;> first | exact setFlag_frame .. | exact Frame.refl

theorem reportTrigger_frame (o n : SlideUnit) (s : State) (t : Truck) :
    Frame triggerPieces s (reportTrigger o n s t) := by
  refine Frame.ite (fun _ => Frame.refl) fun _ => ?_
  split <;> first | exact trigger_frame .. | exact Frame.refl

theorem foldl_frame {α : Type} {l : List Piece} (f : State → α → State) (h : ∀ s x, Frame l s (f s x)) (xs : List α)
    (s : State) : Frame l s (xs.foldl f s) := by
  induction xs generalizing s with
  | nil => exact Frame.refl
  | cons x xs ih => exact (h s x).trans (ih _)

theorem slideReports_frame (o n : SlideUnit) (s : State) : Frame requestPieces s (slideReports o n s) := by
  have a := fun s x => (reportAxle_frame o n s x).mono (m := requestPieces) (by decide)
  have t := fun s x => (reportTruck_frame o n s x).mono (m := requestPieces) (by decide)
  have f := fun s x => (reportFlag_frame o n s x).mono (m := requestPieces) (by decide)
  have g := fun s x => (reportTrigger_frame o n s x).mono (m := requestPieces) (by decide)
  have c := reportCount_frame o n
  exact (((((((((foldl_frame _ a allAxles s).trans (t _ .a)).trans (t _ .b)).trans (c _ .a)).trans (c _ .b)).trans
    (f _ .a)).trans (f _ .b)).trans (g _ .a)).trans (g _ .b))

theorem slideRun_frame (e : SlideEvent) (s : State) : Frame slidePieces s (slideRun e s) :=
  ((setSlide_frame _ s).mono (by decide)).trans ((slideReports_frame ..).mono (by decide))

/-- The slide unit after its event is what the pure move says (R98). -/
theorem slideRun_slide (e : SlideEvent) (s : State) : (slideRun e s).slide = slideNext e s :=
  (slideReports_frame s.slide (slideNext e s) { s with slide := slideNext e s }).same .slide (by decide)

/-! ### Traction channel -/

/-- What the traction channel's operations may move, short of the hand-off to the blend unit. -/
def tractionPieces : List Piece := requestPieces ++ [.slot, .lastResult, .traction, .emitted]

theorem setTraction_frame (c : TractionChannel) (s : State) : Frame tractionPieces s { s with traction := c } := by
  refine ⟨fun p hp => ?_⟩
  cases p <;> first | exact absurd (by decide) hp | simp [Piece.same]

theorem enterTraction_frame (x : TractionState) (s : State) : Frame tractionPieces s (enterTraction x s) :=
  (setTraction_frame _ s).trans ((trace_frame ..).mono (by decide))

theorem pushTraction_frame (s : State) : Frame tractionPieces s (pushTraction s) :=
  (setTraction_frame _ s).trans ((emit_frame ..).mono (by decide))

theorem tractionLost_frame (s : State) : Frame tractionPieces s (tractionLost s) :=
  (((enterTraction_frame .lost s).trans ((setFlag_frame ..).mono (by decide))).trans
    ((countHealth_frame ..).mono (by decide))).trans ((trigger_frame ..).mono (by decide))

theorem tractionMissed_frame (s : State) : Frame tractionPieces s (tractionMissed s) :=
  (setTraction_frame _ s).trans (Frame.ite (fun _ => tractionLost_frame _) fun _ => Frame.refl)

theorem sendTraction_frame (s : State) : Frame tractionPieces s (sendTraction s) :=
  Frame.ite (fun _ => (pushTraction_frame s).trans (tractionMissed_frame _)) fun _ => pushTraction_frame s

theorem takeTargets_frame (v : Six Nat) (s : State) : Frame tractionPieces s (takeTargets v s) :=
  Frame.ite (fun _ => Frame.refl) fun _ =>
    (setTraction_frame _ s).trans (Frame.ite (fun _ => sendTraction_frame _) fun _ => Frame.refl)

theorem tractionGood_frame (s : State) : Frame tractionPieces s (tractionGood s) := setTraction_frame _ s

theorem tractionRestored_frame (m : ConverterMode) (s : State) : Frame tractionPieces s (tractionRestored m s) := by
  unfold tractionRestored
  split
  · exact Frame.ite (fun _ => enterTraction_frame ..) fun _ => Frame.refl
  · exact Frame.ite (fun _ => enterTraction_frame ..) fun _ => Frame.refl
  · refine Frame.ite (fun _ => ?_) fun _ => Frame.refl
    have a := (setTraction_frame { s.traction with hsKind := .none, hsTimer := .stopped } s).trans
      (enterTraction_frame .active _)
    exact Frame.ite (fun _ => a.trans ((finish_frame ..).mono (by decide))) fun _ => a
  all_goals exact Frame.refl

theorem takeDynReport_frame (n : Nat) (d : DynData) (s : State) : Frame tractionPieces s (takeDynReport n d s) := by
  unfold takeDynReport
  split
  · exact (trace_frame ..).mono (by decide)
  · exact ((setTraction_frame _ s).trans (tractionGood_frame _)).trans (tractionRestored_frame ..)
  · exact (((setTraction_frame _ s).trans (tractionGood_frame _)).trans ((trace_frame ..).mono (by decide))).trans
      (tractionRestored_frame ..)

theorem startResume_frame (o : HsOrigin) (s : State) : Frame tractionPieces s (startResume o s) :=
  (((setTraction_frame _ s).trans ((emit_frame ..).mono (by decide))).trans (enterTraction_frame ..)).trans
    (sendTraction_frame _)

theorem autoResume_frame (b : Bool) (s : State) : Frame tractionPieces s (autoResume b s) := by
  have t := fun u => (trigger_frame .releaseOverrun u).mono (m := tractionPieces) (by decide)
  unfold autoResume
  split
  · have a := (startResume_frame .automatic s).trans ((finish_frame .releaseTraction .aborted _).mono (by decide))
    exact Frame.ite (fun _ => a.trans (t _)) fun _ => a
  · have a := startResume_frame .automatic s
    exact Frame.ite (fun _ => a.trans (t _)) fun _ => a
  all_goals exact Frame.refl

/-! ### Air channel -/

/-- What the air channel's operations may move, short of the hand-off to the blend unit. -/
def airPieces : List Piece := airStepPieces

theorem setAir_frame (c : AirChannel) (s : State) : Frame airPieces s { s with air := c } := by
  refine ⟨fun p hp => ?_⟩
  cases p <;> first | exact absurd (by decide) hp | simp [Piece.same]

theorem enterAir_frame (x : LinkState) (s : State) : Frame airPieces s (enterAir x s) :=
  (setAir_frame _ s).trans ((trace_frame ..).mono (by decide))

theorem pushAir_frame (s : State) : Frame airPieces s (pushAir s) :=
  (setAir_frame _ s).trans ((emit_frame ..).mono (by decide))

theorem airLossRequests_frame (s : State) : Frame airPieces s (airLossRequests s) :=
  (((setFlag_frame .linkLost s).mono (by decide)).trans ((countHealth_frame ..).mono (by decide))).trans
    ((trigger_frame ..).mono (by decide))

theorem airLost_frame (s : State) : Frame airPieces s (airLost s) :=
  (enterAir_frame .lost s).trans (airLossRequests_frame _)

theorem airMissCount_frame (s : State) : Frame airPieces s (airMissCount s) := setAir_frame _ s

theorem recordTestEnd_frame (r : TestResult) (p : TestPhase) (v : Pair Nat) (s : State) :
    Frame airPieces s (recordTestEnd r p v s) :=
  ((setAir_frame _ s).trans ((trace_frame ..).mono (by decide))).trans ((finish_frame ..).mono (by decide))

theorem sourceToBlend_frame (b : Bool) (s : State) : Frame airPieces s (sourceToBlend b s) := by
  have a := (setAir_frame { s.air with source := .blend } s).trans (pushAir_frame _)
  exact Frame.ite (fun _ => a.trans (airMissCount_frame _)) fun _ => a

theorem endTestWith_frame {f : State → State} (h : ∀ u, Frame airPieces u (f u)) (r : TestResult) (s : State) :
    Frame airPieces s (endTestWith f r s) := by
  refine Frame.ite (fun _ => Frame.refl) fun _ => ?_
  have a : Frame airPieces s (if s.endFails = true then enterAir .lost s else s) :=
    Frame.ite (fun _ => enterAir_frame ..) fun _ => Frame.refl
  have b := ((a.trans (recordTestEnd_frame r s.air.phase s.achievedPressures _)).trans (h _)).trans
    (sourceToBlend_frame (listFull s.air.list) _)
  exact (Frame.ite (fun _ => b.trans (airLossRequests_frame _)) fun _ => b).trans
    ((trigger_frame ..).mono (by decide))

theorem endTest_frame (r : TestResult) (s : State) : Frame airPieces s (endTest r s) :=
  endTestWith_frame (fun _ => Frame.refl) r s

theorem airMissed_frame (s : State) : Frame airPieces s (airMissed s) :=
  (airMissCount_frame s).trans
    (Frame.ite (fun _ => (airLost_frame _).trans (endTest_frame ..)) fun _ => Frame.refl)

theorem sendAir_frame (s : State) : Frame airPieces s (sendAir s) :=
  Frame.ite (fun _ => (pushAir_frame s).trans (airMissed_frame _)) fun _ => pushAir_frame s

theorem takePressures_frame (v : Pair Nat) (s : State) : Frame airPieces s (takePressures v s) := by
  unfold takePressures
  split
  · exact Frame.refl
  · dsimp only
    split
    · exact (setAir_frame _ s).trans (sendAir_frame _)
    · exact setAir_frame _ s

theorem enterPhase_frame (p : TestPhase) (s : State) : Frame airPieces s (enterPhase p s) :=
  (setAir_frame _ s).trans (sendAir_frame _)

theorem phaseOver_frame (p : TestPhase) (s : State) : Frame airPieces s (phaseOver p s) := by
  unfold phaseOver
  split
  · exact enterPhase_frame ..
  · exact endTest_frame ..

theorem judgePhase_frame (v : Pair Nat) (s : State) : Frame airPieces s (judgePhase v s) :=
  Frame.ite (fun _ => Frame.trans ((trace_frame ..).mono (by decide)) (phaseOver_frame ..)) fun _ => Frame.refl

theorem airRestored_frame (s : State) : Frame airPieces s (airRestored s) :=
  Frame.ite (fun _ => enterAir_frame ..) fun _ => Frame.refl

theorem takeAirReport_frame (n : Nat) (v : Pair Nat) (s : State) : Frame airPieces s (takeAirReport n v s) := by
  unfold takeAirReport
  split
  · exact (trace_frame ..).mono (by decide)
  · exact (((setAir_frame _ s).trans (setAir_frame _ _)).trans (airRestored_frame _)).trans (judgePhase_frame ..)
  · exact (((setAir_frame _ s).trans (setAir_frame _ _)).trans ((trace_frame ..).mono (by decide))).trans
      (airRestored_frame _)

theorem linksLoseStandstill_frame (b : Bool) (s : State) : Frame brakePieces s (linksLoseStandstill b s) :=
  ((autoResume_frame b s).mono (by decide)).trans ((endTest_frame ..).mono (by decide))

/-! ### Blend unit -/

theorem setBlend_frame (b : BlendUnit) (s : State) : Frame [.blend] s { s with blend := b } := by
  refine ⟨fun p hp => ?_⟩
  cases p <;> first | exact absurd (by decide) hp | simp [Piece.same]

/-- What a grid's evaluation may move (R72 to R74). -/
def gridPieces : List Piece := requestPieces ++ [.blend]

theorem gridRequests_frame (t : Truck) (o n : GridState) (v : Nat) (s : State) :
    Frame requestPieces s (gridRequests t o n v s) := by
  have a := (trace_frame (.grid t o n v) s).mono (m := requestPieces) (by decide)
  unfold gridRequests
  cases n
  · exact a
  · exact (a.trans ((setFlag_frame ..).mono (by decide))).trans (countHealth_frame ..)
  · exact ((a.trans ((setFlag_frame ..).mono (by decide))).trans (countHealth_frame ..)).trans
      ((trigger_frame ..).mono (by decide))

theorem evalGrid_frame (t : Truck) (s : State) : Frame gridPieces s (evalGrid t s) :=
  Frame.ite (fun _ => Frame.refl) fun _ =>
    ((setBlend_frame _ s).mono (by decide)).trans ((gridRequests_frame ..).mono (by decide))

theorem evalGrids_frame (s : State) : Frame gridPieces s (evalGrids s) :=
  Frame.ite (fun _ => (evalGrid_frame .a s).trans (evalGrid_frame .b _)) fun _ => Frame.refl

theorem traceBlend_frame (s : State) : Frame gridPieces s (traceBlend s) :=
  Frame.ite (fun _ => ((setBlend_frame _ s).mono (by decide)).trans ((trace_frame ..).mono (by decide))) fun _ =>
    Frame.refl

theorem handTargets_frame (s : State) : Frame brakePieces s (handTargets s) :=
  Frame.ite (fun _ => Frame.refl) fun _ =>
    ((setBlend_frame _ s).mono (by decide)).trans ((takeTargets_frame ..).mono (by decide))

theorem handAir_frame (s : State) : Frame brakePieces s (handAir s) :=
  Frame.ite (fun _ => Frame.refl) fun _ =>
    ((setBlend_frame _ s).mono (by decide)).trans ((takePressures_frame ..).mono (by decide))

theorem handSlide_frame (s : State) : Frame brakePieces s (handSlide s) := by
  refine Frame.ite (fun _ => Frame.refl) fun _ => ?_
  have a := (setBlend_frame { s.blend with handedSlide := some s.blend.commanded } s).mono (m := brakePieces)
    (by decide)
  exact (a.trans ((setSlide_frame { s.slide with commanded := some s.blend.commanded } _).mono (by decide))).trans
    ((slideRun_frame ..).mono (by decide))

theorem recompute_frame (g : Bool) (s : State) : Frame brakePieces s (recompute g s) := by
  have a : Frame brakePieces s (if g then evalGrids s else s) :=
    Frame.ite (fun _ => (evalGrids_frame s).mono (by decide)) fun _ => Frame.refl
  exact ((((a.trans ((setBlend_frame _ _).mono (by decide))).trans ((traceBlend_frame _).mono (by decide))).trans
    (handTargets_frame _)).trans (handAir_frame _)).trans (handSlide_frame _)

theorem recomputeLoop_frame (n : Nat) (g : Bool) (s : State) : Frame brakePieces s (recomputeLoop n g s) := by
  induction n generalizing g s with
  | zero => exact Frame.refl
  | succ n ih =>
    exact Frame.ite (fun _ => (recompute_frame g s).trans (ih ..)) fun _ => recompute_frame g s

theorem blendEvent_frame (g : Bool) (s : State) : Frame brakePieces s (blendEvent g s) :=
  Frame.ite (fun _ => Frame.refl) fun _ => recomputeLoop_frame ..

theorem slideEvent_frame (e : SlideEvent) (s : State) : Frame brakePieces s (slideEvent e s) := by
  have a := (slideRun_frame e s).mono (m := brakePieces) (by decide)
  exact Frame.ite (fun _ => a.trans (blendEvent_frame ..)) fun _ => a

/-! ### Demand supervisor -/

theorem setDemand_frame (d : DemandUnit) (s : State) : Frame [.demand] s { s with demand := d } := by
  refine ⟨fun p hp => ?_⟩
  cases p <;> first | exact absurd (by decide) hp | simp [Piece.same]

theorem linksTakeDemand_frame (m : HandMark) (s : State) : Frame brakePieces s (linksTakeDemand m s) := by
  have a : Frame brakePieces s (if s.demand.st == .emergency && m == .state then autoResume false s else s) :=
    Frame.ite (fun _ => (autoResume_frame ..).mono (by decide)) fun _ => Frame.refl
  exact Frame.ite (fun _ => a) fun _ => a.trans ((endTest_frame ..).mono (by decide))

theorem withTractionChange_frame {l : List Piece} (f : State → State) (s : State) (h : Frame l s (f s))
    (k : ∀ p ∈ l, p ∈ brakePieces) : Frame brakePieces s (withTractionChange f s) :=
  Frame.ite (fun _ => (h.mono k).trans (blendEvent_frame ..)) fun _ => h.mono k

theorem handed_frame (s : State) :
    Frame brakePieces s { s with status := { s.status with demandHanded := s.demand.st } } := by
  refine ⟨fun p hp => ?_⟩
  cases p <;> first | exact absurd (by decide) hp | simp [Piece.same]

theorem handAhead_frame (s : State) : Frame brakePieces s (handAhead s) :=
  ((handed_frame s).trans ((slideRun_frame .exam _).mono (by decide))).trans (linksTakeDemand_frame ..)

theorem handDemand_frame (m : HandMark) (s : State) : Frame brakePieces s (handDemand m s) :=
  (((handed_frame s).trans ((slideRun_frame .exam _).mono (by decide))).trans (blendEvent_frame false _)).trans
    (withTractionChange_frame _ _ (linksTakeDemand_frame ..) (by decide))

end Sys2Proof.Machine
end

