-- ==== Sys2Proof/Laws/Commands.lean ====
section
/-! SUPPORT. Frames of what the commands do: the decoder, the path unit, the demand supervisor, the speed unit, the
lines, the loader, the store's steps and the resets, and one frame for the shape every command has. -/

namespace Sys2Proof.Machine

variable {s t : State} {l : List Piece}

/-! ### The shape of a command -/

theorem clearEmitted_frame (s : State) : Frame [.emitted] s { s with emitted := [] } := by
  refine ⟨fun p hp => ?_⟩
  cases p <;> first | exact absurd (by decide) hp | simp [Piece.same]

/-- A command's frame from its effect's. -/
theorem run_frame {m : List Piece} {f : State → State} (h : ∀ u, Frame l u (f u))
    (k : ∀ p ∈ l ++ portPieces, p ∈ m) (e : run f s = .next t) : Frame m s t := by
  cases e
  have a : Frame (l ++ portPieces) s { s with emitted := [] } :=
    (clearEmitted_frame s).mono (by intro p hp; simp_all [portPieces])
  exact ((a.trans ((h _).mono (by simp_all))).trans ((arbitrate_frame _).mono (by simp_all))).mono k

theorem guarded_frame (g : State → Bool) {f : State → State} (h : ∀ u, Frame l u (f u)) (s : State) :
    Frame l s (guarded g f s) := Frame.ite (fun _ => h s) fun _ => Frame.refl

theorem setPort_frame (b : Option PortBurst) (s : State) :
    Frame [.arbiter] s { s with arb := { s.arb with port := b } } := by
  refine ⟨fun p hp => ?_⟩
  cases p <;> first | exact absurd (by decide) hp | simp [Piece.same]

theorem onStore_frame (g : StoreBurst → Bool) {f : StoreBurst → State → State} (h : ∀ b u, Frame l u (f b u))
    (k : Piece.arbiter ∈ l) (s : State) : Frame l s (onStore g f s) := by
  have a : Frame l s (freePort s) := (freePort_frame s).mono (by simp [k])
  unfold onStore
  split
  · exact Frame.ite (fun _ => a) fun _ => Frame.ite (fun _ => a.trans (h ..)) fun _ => Frame.refl
  · exact Frame.refl

theorem onLoad_frame (x : LoadKind) {f : LoadBurst → State → State} (h : ∀ b u, Frame l u (f b u))
    (k : Piece.arbiter ∈ l) (s : State) : Frame l s (onLoad x f s) := by
  have a : Frame l s (freePort s) := (freePort_frame s).mono (by simp [k])
  unfold onLoad
  split
  · exact Frame.ite (fun _ => Frame.ite (fun _ => a) fun _ => a.trans (h ..)) fun _ => Frame.refl
  · exact Frame.refl

theorem onDirective_frame (c : DirectiveCode) {f : Slot → State → State} (h : ∀ x u, Frame l u (f x u)) (s : State) :
    Frame l s (onDirective c f s) := by
  unfold onDirective
  split
  · exact h ..
  · exact Frame.refl

theorem setKeys_frame (r : Retention) (s : State) (h : r.counts = s.retention.counts ∧
    r.exceeded = s.retention.exceeded ∧ r.verdict = s.retention.verdict) :
    Frame [.keys] s { s with retention := r } := by
  refine ⟨fun p hp => ?_⟩
  cases p <;> first | exact absurd (by decide) hp | simp [Piece.same, h]

/-- A key-bearing directive: its refusal, or its owner's effect (R183). -/
theorem keyed_frame (x : Slot) {f : State → State} (h : ∀ u, Frame l u (f u)) (k : ∀ p ∈ .keys :: resultPieces, p ∈ l)
    (s : State) : Frame l s (keyed x f s) := by
  have a : Frame l s { s with retention := s.retention.failedAttempt } :=
    (setKeys_frame s.retention.failedAttempt s ⟨rfl, rfl, rfl⟩).mono fun p hp => k p (by simp_all)
  have b : Frame l s { s with retention := { s.retention with failed := 0 } } :=
    (setKeys_frame { s.retention with failed := 0 } s ⟨rfl, rfl, rfl⟩).mono fun p hp => k p (by simp_all)
  unfold keyed
  split
  · refine Frame.trans (Frame.ite (fun _ => a) fun _ => Frame.refl)
      ((finish_frame ..).mono fun p hp => k p (List.mem_cons_of_mem _ hp))
  · exact Frame.trans (Frame.ite (fun _ => b) fun _ => Frame.refl) (h _)

/-! ### Path unit and directive decoder -/

theorem setPath_frame (u : PathUnit) (s : State) : Frame [.path] s { s with path := u } := by
  refine ⟨fun p hp => ?_⟩
  cases p <;> first | exact absurd (by decide) hp | simp [Piece.same]

theorem respond_frame (r : Response) (d : List BeatData) (s : State) :
    Frame [.path, .emitted] s (respond r d s) :=
  ((setPath_frame _ s).mono (by decide)).trans ((emit_frame ..).mono (by decide))

theorem violation_frame (v : Violation) (a : Addr) (s : State) : Frame triggerPieces s (violation v a s) :=
  (((trace_frame (.path v a) s).mono (by decide)).trans ((setFlag_frame ..).mono (by decide))).trans (trigger_frame ..)

theorem setPass_frame (c : Option Transaction) (s : State) :
    Frame [.path, .arbiter] s { s with arb := { s.arb with pass := c } } := by
  refine ⟨fun p hp => ?_⟩
  cases p <;> first | exact absurd (by decide) hp | simp [Piece.same]

theorem accept_frame (x : Transaction) (s : State) : Frame [.path, .arbiter] s (accept x s) := by
  have a := fun u => (setPath_frame u s).mono (m := [.path, .arbiter]) (by decide)
  exact Frame.ite (fun _ => (a _).trans (setPass_frame ..)) fun _ => a _

theorem onHeld_frame (g : Held → Bool) {f : Held → State → State} (h : ∀ x u, Frame l u (f x u)) (s : State) :
    Frame l s (onHeld g f s) := by
  unfold onHeld
  split
  · exact Frame.ite (fun _ => h ..) fun _ => Frame.refl
  · exact Frame.refl

theorem takeDemandBeat_frame (i : Nat) (b : WriteBeat) (s : State) : Frame [.demand] s (takeDemandBeat i b s) := by
  unfold takeDemandBeat
  dsimp only
  split
  · exact Frame.refl
  · exact Frame.ite (fun _ => setDemand_frame ..) fun _ => setDemand_frame ..

theorem setAssembly_frame (a : Assembly) (s : State) :
    Frame [.assembly] s { s with decoder := { s.decoder with asm := a } } := by
  refine ⟨fun p hp => ?_⟩
  cases p <;> first | exact absurd (by decide) hp | simp [Piece.same]

theorem dispatchDirective_frame (c : DirectiveCode) (r : DirectiveRecord) (s : State) :
    Frame [.slot] s (dispatchDirective c r s) := by
  unfold dispatchDirective
  split <;> refine ⟨fun p hp => ?_⟩ <;> cases p <;>
    first | exact absurd (by decide) hp | simp_all [Piece.same]

theorem checkDirective_frame (w : Bool) (r : DirectiveRecord) (s : State) :
    Frame resultPieces s (checkDirective w r s) := by
  unfold checkDirective
  split
  · exact publish_frame ..
  · split
    · exact publish_frame ..
    · exact Frame.ite (fun _ => publish_frame ..) fun _ => Frame.ite (fun _ => publish_frame ..) fun _ =>
        (dispatchDirective_frame ..).mono (by decide)

theorem takeDirectiveBeat_frame (i : Nat) (b : WriteBeat) (s : State) :
    Frame (.assembly :: resultPieces) s (takeDirectiveBeat i b s) := by
  have a := fun x => (setAssembly_frame x s).mono (m := .assembly :: resultPieces) (by decide)
  unfold takeDirectiveBeat
  dsimp only
  split
  · exact Frame.refl
  · exact Frame.ite (fun _ => (a _).trans ((checkDirective_frame ..).mono (by decide))) fun _ => a _

theorem handBeats_frame {f : Nat → WriteBeat → State → State} (h : ∀ i b u, Frame l u (f i b u)) (i : Nat)
    (bs : List WriteBeat) (s : State) : Frame l s (handBeats f i bs s) := by
  induction bs generalizing i s with
  | nil => exact Frame.refl
  | cons b bs ih => exact (h i b s).trans (ih ..)

theorem watchSample_frame (i o : Nat) (x : Transaction) (s : State) : Frame tracePieces s (watchSample i o x s) := by
  unfold watchSample
  split
  · exact Frame.ite (fun _ => trace_frame ..) fun _ => Frame.refl
  · exact Frame.refl

theorem setLoader_frame (u : Loader) (h : u.queue = s.loader.queue) : Frame [.loader] s { s with loader := u } := by
  refine ⟨fun p hp => ?_⟩
  cases p <;> first | exact absurd (by decide) hp | simp [Piece.same, h]

/-- What memory's answer to a passed transaction may hand on (R6 to R8). -/
def handPieces : List Piece := [Piece.loader, .demand, .assembly] ++ resultPieces

theorem handReload_frame (x : Held) (s : State) : Frame [.loader] s (handReload x s) :=
  Frame.ite (fun _ => setLoader_frame { s.loader with requests := s.loader.requests + 1 } rfl) fun _ => Frame.refl

theorem handToWindow_frame (x : Held) (s : State) : Frame handPieces s (handToWindow x s) := by
  unfold handToWindow
  split
  · exact (handBeats_frame takeDemandBeat_frame ..).mono (by decide)
  · exact (handBeats_frame takeDirectiveBeat_frame ..).mono (by decide)
  · exact (watchSample_frame ..).mono (by decide)
  · exact Frame.refl

theorem handOff_frame (x : Held) (s : State) : Frame handPieces s (handOff x s) :=
  ((handReload_frame x s).mono (by decide)).trans (handToWindow_frame ..)

theorem handOn_frame (r : Response) (x : Held) (s : State) : Frame handPieces s (handOn r x s) :=
  Frame.ite (fun _ => handOff_frame ..) fun _ => Frame.refl

theorem passAnswered_frame (r : Response) (d : List BeatData) (s : State) :
    Frame ([Piece.path, .arbiter, .emitted] ++ handPieces) s (passAnswered r d s) := by
  unfold passAnswered
  split
  · exact (((freePort_frame s).mono (by decide)).trans ((respond_frame ..).mono (by decide))).trans
      ((handOn_frame ..).mono (by decide))
  · exact Frame.refl

end Sys2Proof.Machine
end

