-- ==== Sys2Proof/Laws/Units.lean ====
section
/-! SUPPORT. Frames of the events of the demand supervisor, the speed unit, the links, the lines, the loader and the
store. -/

namespace Sys2Proof.Machine

/-! ### Demand supervisor -/

/-- What an event of the demand supervisor may move. -/
def demandPieces : List Piece := .demand :: brakePieces

theorem traceDState_frame (o n : DemandState) (c : DStateCause) (s : State) :
    Frame demandPieces s (traceDState o n c s) := (trace_frame ..).mono (by decide)

theorem enterPenalty_frame (c : DStateCause) (s : State) : Frame demandPieces s (enterPenalty c s) :=
  ((setDemand_frame _ s).mono (by decide)).trans (traceDState_frame ..)

theorem penaltyRequests_frame (c : TriggerCause) (s : State) : Frame demandPieces s (penaltyRequests c s) :=
  (((setFlag_frame .penalty s).mono (by decide)).trans ((countHealth_frame ..).mono (by decide))).trans
    ((trigger_frame ..).mono (by decide))

theorem hand_frame (m : HandMark) (s : State) : Frame demandPieces s (handDemand m s) :=
  (handDemand_frame m s).mono (by decide)

theorem applyPenalty_frame (c : DStateCause) (x : TriggerCause) (s : State) : Frame demandPieces s (applyPenalty c x s) :=
  ((enterPenalty_frame c s).trans (hand_frame ..)).trans (penaltyRequests_frame ..)

theorem enterEmergency_frame (c : DStateCause) (s : State) : Frame demandPieces s (enterEmergency c s) :=
  ((setDemand_frame _ s).mono (by decide)).trans (traceDState_frame ..)

theorem applyEmergency_frame (b : Bool) (c : DStateCause) (s : State) :
    Frame demandPieces s (applyEmergency b c s) :=
  Frame.ite (fun _ => Frame.refl) fun _ =>
    (Frame.ite (b := b = true) (fun _ => (enterEmergency_frame c s).trans ((handAhead_frame _).mono (by decide)))
      fun _ => (enterEmergency_frame c s).trans (hand_frame ..)).trans ((setFlag_frame ..).mono (by decide))

theorem emergencyLineRequest_frame (b : Bool) (s : State) : Frame demandPieces s (emergencyLineRequest b s) :=
  Frame.ite (fun _ => Frame.refl) fun _ => applyEmergency_frame ..

theorem refuseDemand_frame (r : RefusalReason) (n : Nat) (s : State) : Frame demandPieces s (refuseDemand r n s) := by
  have a := (((setDemand_frame { s.demand with failCount := satAdd 255 s.demand.failCount } s).mono
    (m := demandPieces) (by decide)).trans ((trace_frame (.refusal r n) _).mono (by decide))).trans
    ((countHealth_frame .demandRefusals _).mono (by decide))
  exact Frame.ite (fun _ => a.trans (applyPenalty_frame ..)) fun _ => a

theorem acceptLive_frame (o : Option DemandRecord) (r : DemandRecord) (s : State) :
    Frame demandPieces s (acceptLive o r s) := by
  unfold acceptLive
  have a := fun u => (setDemand_frame u s).mono (m := demandPieces) (by decide)
  dsimp only
  split
  · exact ((a _).trans (traceDState_frame ..)).trans (hand_frame ..)
  · exact ((a _).trans (traceDState_frame ..)).trans (hand_frame ..)
  all_goals exact (a _).trans (hand_frame ..)

theorem acceptDemand_frame (r : DemandRecord) (g : Bool) (s : State) : Frame demandPieces s (acceptDemand r g s) := by
  have a := (setDemand_frame { s.demand with last := some r, failCount := 0 } s).mono (m := demandPieces) (by decide)
  have b : Frame demandPieces s (if demandTraced s.demand.last r g then trace (.demand r g)
      { s with demand := { s.demand with last := some r, failCount := 0 } } else
      { s with demand := { s.demand with last := some r, failCount := 0 } }) :=
    Frame.ite (fun _ => a.trans ((trace_frame ..).mono (by decide))) fun _ => a
  unfold acceptDemand
  dsimp only
  split
  · exact Frame.ite (fun _ => b) fun _ => b.trans ((applyEmergency_frame ..).trans ((trigger_frame ..).mono (by decide)))
  all_goals
    split <;> first | exact b | exact b.trans (acceptLive_frame ..)

theorem takeDemandRecord_frame (c : CompletedRecord) (s : State) : Frame demandPieces s (takeDemandRecord c s) := by
  unfold takeDemandRecord
  split
  · unfold ruleSequence
    split
    · exact acceptDemand_frame ..
    · exact Frame.ite (fun _ => Frame.refl) fun _ => acceptDemand_frame ..
  · exact refuseDemand_frame ..

theorem takeInbox_frame (s : State) : Frame demandPieces s (takeInbox s) := by
  unfold takeInbox
  split
  · exact ((setDemand_frame _ s).mono (by decide)).trans (takeDemandRecord_frame ..)
  · exact Frame.refl

theorem enterStale_frame (s : State) : Frame demandPieces s (enterStale s) :=
  ((setDemand_frame _ s).mono (by decide)).trans (traceDState_frame ..)

theorem freshnessExpired_frame (s : State) : Frame demandPieces s (freshnessExpired s) :=
  Frame.ite (fun _ => ((((enterStale_frame s).trans (enterPenalty_frame ..)).trans (hand_frame ..)).trans
    ((setFlag_frame ..).mono (by decide))).trans (penaltyRequests_frame ..)) fun _ =>
    ((enterStale_frame s).trans (hand_frame ..)).trans ((setFlag_frame ..).mono (by decide))

/-! ### Speed unit -/

/-- What an event of the speed unit may move. -/
def speedPieces : List Piece := .speed :: brakePieces

theorem setSpeed_frame (u : SpeedUnit) (s : State) : Frame [.speed] s { s with speed := u } := by
  refine ⟨fun p hp => ?_⟩
  cases p <;> first | exact absurd (by decide) hp | simp [Piece.same]

theorem handStandstill_frame (o n : Standstill) (s : State) : Frame brakePieces s (handStandstill o n s) :=
  Frame.ite (fun _ => linksLoseStandstill_frame ..) fun _ => Frame.refl

theorem handSpeed_frame (e : SlideEvent) (o : SpeedUnit) (s : State) : Frame brakePieces s (handSpeed e o s) := by
  have a := ((slideRun_frame e s).mono (m := brakePieces) (by decide)).trans
    (handStandstill_frame o.standstill s.speed.standstill _)
  exact Frame.ite (fun _ => a.trans (blendEvent_frame ..)) fun _ => a

theorem countSample_frame (u : SpeedUnit) (n : Nat) (s : State) :
    Frame (.free :: speedPieces) s { s with speed := u, free := n } := by
  refine ⟨fun p hp => ?_⟩
  cases p <;> first | exact absurd (by decide) hp | simp [Piece.same]

theorem acceptSample_frame (n i : Nat) (v : Six Nat) (s : State) :
    Frame (.free :: speedPieces) s (acceptSample n i v s) := by
  have a := countSample_frame (speedAfter n i v s) (s.free + 1) s
  have b : Frame (.free :: speedPieces) s (if s.speed.link == .active then
      { s with speed := speedAfter n i v s, free := s.free + 1 } else
      traceSpeedLink .active { s with speed := speedAfter n i v s, free := s.free + 1 }) :=
    Frame.ite (fun _ => a) fun _ => a.trans ((trace_frame ..).mono (by decide))
  exact b.trans ((handSpeed_frame ..).mono (by decide))

theorem takeSample_frame (n i : Nat) (v : Six Nat) (s : State) :
    Frame (.free :: speedPieces) s (takeSample n i v s) :=
  Frame.ite (fun _ => Frame.refl) fun _ => acceptSample_frame ..

theorem loseSpeedLink_frame (s : State) : Frame speedPieces s (loseSpeedLink s) :=
  (((((setSpeed_frame _ s).mono (by decide)).trans ((trace_frame ..).mono (by decide))).trans
    ((handSpeed_frame ..).mono (by decide))).trans ((setFlag_frame ..).mono (by decide))).trans
    ((trigger_frame ..).mono (by decide))

theorem confirmStandstill_frame (s : State) : Frame speedPieces s (confirmStandstill s) :=
  ((setSpeed_frame _ s).mono (by decide)).trans ((slideEvent_frame ..).mono (by decide))

/-! ### Links -/

theorem dynReportEvent_frame (n : Nat) (d : DynData) (s : State) : Frame brakePieces s (dynReportEvent n d s) := by
  have a := (takeDynReport_frame n d s).mono (m := brakePieces) (by decide)
  exact Frame.ite (fun _ => a.trans (blendEvent_frame ..)) fun _ => a

theorem airReportEvent_frame (n : Nat) (v : Pair Nat) (s : State) : Frame brakePieces s (airReportEvent n v s) := by
  have a := (takeAirReport_frame n v s).mono (m := brakePieces) (by decide)
  exact Frame.ite (fun _ => a.trans (blendEvent_frame ..)) fun _ => a

theorem releaseAckEvent_frame (n : Nat) (s : State) : Frame brakePieces s (releaseAckEvent n s) :=
  Frame.ite (fun _ => ((((setTraction_frame _ s).trans (enterTraction_frame ..)).mono (by decide)).trans
    ((finish_frame ..).mono (by decide))).trans (blendEvent_frame ..)) fun _ => (trace_frame ..).mono (by decide)

/-- What a frame that ends on a link may move. -/
def framePieces : Link → List Piece
  | .speed => [Piece.receivers, .speed, .free] ++ brakePieces
  | .traction | .air => .receivers :: brakePieces

theorem takeFrame_frame (l : Link) (bs : List Byte) (f : GoodFrame) (h : judgeFrame l bs = some f) (s : State) :
    Frame (framePieces l) s (takeFrame f s) := by
  cases f with
  | dynReport n d => exact (dynReportEvent_frame n d s).mono (by cases l <;> decide)
  | releaseAck n => exact (releaseAckEvent_frame n s).mono (by cases l <;> decide)
  | airReport n v => exact (airReportEvent_frame n v s).mono (by cases l <;> decide)
  | speedSample n i v =>
    cases l with
    | speed => exact (takeSample_frame n i v s).mono (by decide)
    | traction | air =>
      simp only [judgeFrame, frameKindOf] at h
      split at h
      · simp at h
      · rename_i k hk
        have q : k ≠ .speedSample := by
          rintro rfl
          repeat' split at hk
          all_goals simp at hk
        split at h
        · cases k <;> simp_all [payloadOf]
        · simp at h

theorem takeWhole_frame (l : Link) (bs : List Byte) (s : State) : Frame (framePieces l) s (takeWhole l bs s) := by
  unfold takeWhole
  split
  · exact takeFrame_frame l bs _ (by assumption) s
  · exact (trace_frame ..).mono (by cases l <;> decide)

theorem setRx_frame (r : Receivers) (s : State) : Frame [.receivers] s { s with rx := r } := by
  refine ⟨fun p hp => ?_⟩
  cases p <;> first | exact absurd (by decide) hp | simp [Piece.same]

theorem receiveByte_frame (l : Link) (s : State) (b : Byte) : Frame (framePieces l) s (receiveByte l s b) := by
  have a := fun r => (setRx_frame r s).mono (m := framePieces l) (by cases l <;> decide)
  exact Frame.ite (fun _ => (a _).trans (takeWhole_frame ..)) fun _ => a _

theorem receive_frame (l : Link) (bs : List Byte) (s : State) : Frame (framePieces l) s (receive l bs s) :=
  Frame.ite (fun _ => Frame.refl) fun _ => foldl_frame _ (receiveByte_frame l) bs s

theorem tractionChange_frame (f : State → State) (h : ∀ u, Frame tractionPieces u (f u)) (s : State) :
    Frame brakePieces s (withTractionChange f s) := withTractionChange_frame f s (h s) (by decide)

theorem tractionReplyExpired_frame (n : Nat) (s : State) : Frame brakePieces s (tractionReplyExpired n s) :=
  ((setTraction_frame _ s).mono (by decide)).trans (tractionChange_frame _ tractionMissed_frame _)

theorem airReplyExpired_frame (n : Nat) (s : State) : Frame brakePieces s (airReplyExpired n s) :=
  ((setAir_frame _ s).trans (airMissed_frame _)).mono (by decide)

theorem replyExpired_frame (c : Channel) (n : Nat) (s : State) : Frame brakePieces s (replyExpired c n s) := by
  unfold replyExpired
  cases c
  · exact guarded_frame _ (tractionReplyExpired_frame n) s
  · exact guarded_frame _ (airReplyExpired_frame n) s

theorem keepaliveExpired_frame (c : Channel) (s : State) : Frame brakePieces s (keepaliveExpired c s) := by
  unfold keepaliveExpired
  cases c
  · exact guarded_frame _ (tractionChange_frame _ sendTraction_frame) s
  · exact guarded_frame _ (fun u => (sendAir_frame u).mono (by decide)) s

theorem releaseTimedOut_frame (s : State) : Frame brakePieces s (releaseTimedOut s) :=
  (((((setTraction_frame _ s).trans (enterTraction_frame ..)).trans (sendTraction_frame _)).mono (by decide)).trans
    ((finish_frame ..).mono (by decide))).trans (blendEvent_frame ..)

theorem resumeTimedOut_frame (s : State) : Frame brakePieces s (resumeTimedOut s) := by
  have a := ((setTraction_frame { s.traction with hsKind := .none, hsTimer := .stopped } s).trans
    (enterTraction_frame .lost _)).mono (m := brakePieces) (by decide)
  have b := Frame.ite (b := (s.traction.hsOrigin == .directive) = true)
    (fun _ => a.trans ((finish_frame .resumeTraction .failed _).mono (by decide))) fun _ => a
  exact (((b.trans ((setFlag_frame .linkLost _).mono (by decide))).trans
    ((countHealth_frame .tractionLosses _).mono (by decide))).trans ((trigger_frame .tractionLost _).mono (by decide))).trans
    (blendEvent_frame ..)

theorem handshakeExpired_frame (s : State) : Frame brakePieces s (handshakeExpired s) := by
  unfold handshakeExpired
  split
  · exact releaseTimedOut_frame s
  · exact resumeTimedOut_frame s
  all_goals exact Frame.refl

/-! ### Trigger lines -/

/-- What a detection may move. -/
def linePieces : List Piece := .lines :: demandPieces

theorem disarmLine_frame (n : Line) (s : State) : Frame [.lines] s (disarmLine n s) :=
  Frame.ite (fun _ => Frame.refl) fun _ => setLine_frame ..

theorem lineEmergency_frame (b : Bool) (n : Line) (s : State) : Frame demandPieces s (lineEmergency b n s) :=
  Frame.ite (fun _ => emergencyLineRequest_frame b s) fun _ => Frame.refl

theorem detect_frame (b : Bool) (n : Line) (s : State) : Frame linePieces s (detect b n s) :=
  Frame.ite (fun _ => Frame.refl) fun _ => Frame.ite (fun _ =>
    ((((traceTrigger_frame _ s).mono (by decide)).trans ((disarmLine_frame ..).mono (by decide))).trans
      ((lineEmergency_frame ..).mono (by decide))).trans ((assemble_frame ..).mono (by decide))) fun _ =>
    (trace_frame ..).mono (by decide)

theorem lineMoves_frame (n : Line) (f : LineState → LineState) (s : State) : Frame linePieces s (setLine n f s) :=
  (setLine_frame n f s).mono (by decide)

theorem followLevel_frame (b : Bool) (n : Line) (s : State) : Frame linePieces s (followLevel b n s) :=
  Frame.ite (fun _ => Frame.ite (fun _ => (lineMoves_frame ..).trans (detect_frame ..)) fun _ => Frame.refl) fun _ =>
    lineMoves_frame ..

theorem debounceExpired_frame (n : Line) (s : State) : Frame linePieces s (debounceExpired n s) :=
  Frame.ite (fun _ => (lineMoves_frame ..).trans (detect_frame ..)) fun _ => lineMoves_frame ..

theorem changeLine_frame (n : Line) (b : Bool) (s : State) : Frame linePieces s (changeLine n b s) := by
  have a := lineMoves_frame n (fun v => { v with input := b }) s
  exact Frame.ite (fun _ => a) fun _ => Frame.ite (fun _ => a.trans (followLevel_frame ..)) fun _ => a

theorem detectAtStart_frame (b : Bool) (n : Line) (s : State) : Frame linePieces s (detectAtStart b s n) :=
  Frame.ite (fun _ => followLevel_frame ..) fun _ => Frame.refl

theorem detectLines_frame (b : Bool) (s : State) : Frame linePieces s (detectLines b s) :=
  ((detectAtStart_frame b .l1 s).trans (detectAtStart_frame b .l2 _)).trans (detectAtStart_frame b .l3 _)

theorem startLine_frame (s : State) (n : Line) : Frame [.lines] s (startLine s n) := setLine_frame ..

theorem startLines_frame (s : State) : Frame [.lines] s (startLines s) :=
  ((startLine_frame s .l1).trans (startLine_frame _ .l2)).trans (startLine_frame _ .l3)

theorem installLine_frame (o : Three LineConfig) (s : State) (n : Line) : Frame [.lines] s (installLine o s n) := by
  unfold installLine
  exact setLine_frame ..

theorem installLines_frame (o : Three LineConfig) (s : State) : Frame [.lines] s (installLines o s) :=
  ((installLine_frame o s .l1).trans (installLine_frame o _ .l2)).trans (installLine_frame o _ .l3)

/-! ### Time -/

theorem setClock_frame (c : Clock) (s : State) : Frame [.clock] s { s with clock := c } := by
  refine ⟨fun p hp => ?_⟩
  cases p <;> first | exact absurd (by decide) hp | simp [Piece.same]

theorem setInputs_frame (i : Inputs) (s : State) : Frame [.inputs] s { s with inputs := i } := by
  refine ⟨fun p hp => ?_⟩
  cases p <;> first | exact absurd (by decide) hp | simp [Piece.same]

theorem wrapCalendar_frame (s : State) : Frame [.clock, .flags] s (wrapCalendar s) :=
  ((setClock_frame _ s).mono (by decide)).trans ((setFlag_frame ..).mono (by decide))

theorem tick_frame (s : State) : Frame [.clock, .flags] s (tick s) := by
  have a : Frame [.clock, .flags] s (tickOperating s) :=
    Frame.ite (fun _ => Frame.refl) fun _ => (setClock_frame _ s).mono (by decide)
  exact a.trans (Frame.ite (fun _ => wrapCalendar_frame _) fun _ => (setClock_frame ..).mono (by decide))

/-- What entry to CLOSING may move. -/
def closingPieces : List Piece := [.incidents, .sequences, .arbiter]

theorem setIncidents_frame (x : RecorderState) (i : Option Incident) (p : Option PendingTrigger) (s : State) :
    Frame closingPieces s { s with recorder := { s.recorder with st := x, incident := i, waiting := p } } := by
  refine ⟨fun p hp => ?_⟩
  cases p <;> first | exact absurd (by decide) hp | simp [Piece.same]

theorem closing_frame (x : ClosingMark) (s : State) : Frame closingPieces s (enterClosing x s) := by
  refine Frame.trans (t := { s with recorder := { s.recorder with
    st := .closing
    incident := s.recorder.incident.map fun i =>
      { i with closingMark := x, closingTime := s.clock.op, window := .stopped } } }) ⟨fun p hp => ?_⟩
    ((askSequence_frame ..).mono (by decide))
  cases p <;> first | exact absurd (by decide) hp | simp [Piece.same]

theorem warnPowerFail_frame (s : State) : Frame closingPieces s (warnPowerFail s) := by
  unfold warnPowerFail
  split
  · exact setIncidents_frame _ _ s.recorder.waiting s
  · exact closing_frame ..
  all_goals exact Frame.refl

theorem startWarning_frame (s : State) : Frame (.inputs :: closingPieces) s (startWarning s) :=
  ((setInputs_frame _ s).mono (by decide)).trans ((warnPowerFail_frame _).mono (by decide))

/-! ### Loader -/

/-- What the loader's steps may move, short of an install. -/
def loadPieces : List Piece := .loader :: portPieces

theorem moveLoader_frame (u : Loader) (s : State) : Frame loadPieces s { s with loader := u } := by
  refine ⟨fun p hp => ?_⟩
  cases p <;> first | exact absurd (by decide) hp | simp [Piece.same]

theorem queueLoad_frame (bs : List LoadBurst) (s : State) : Frame loadPieces s (queueLoad bs s) :=
  (moveLoader_frame _ s).trans ((presentLoad_frame _).mono (by decide))

theorem setResult_frame (c : LoadCode) (n : Nat) (o : LoadOrigin) (s : State) : Frame loadPieces s (setResult c n o s) :=
  (moveLoader_frame _ s).trans (queueLoad_frame ..)

theorem beginLoad_frame (o : LoadOrigin) (s : State) : Frame loadPieces s (beginLoad o s) :=
  (moveLoader_frame _ s).trans (queueLoad_frame ..)

theorem failLoad_frame (c : LoadCode) (n : Nat) (s : State) : Frame loadPieces s (failLoad c n s) :=
  (moveLoader_frame _ s).trans (setResult_frame ..)

theorem takeReloadRequest_frame (s : State) : Frame loadPieces s (takeReloadRequest s) := by
  unfold takeReloadRequest
  split
  · split
    · exact setResult_frame ..
    · exact beginLoad_frame ..
  · exact beginLoad_frame ..
  all_goals exact Frame.refl

theorem takeOneRequest_frame (s : State) : Frame loadPieces s (takeOneRequest s) :=
  (moveLoader_frame _ s).trans (takeReloadRequest_frame _)

theorem anchorAnswered_frame (r : Response) (d : List BeatData) (s : State) : Frame loadPieces s (anchorAnswered r d s) := by
  unfold anchorAnswered
  dsimp only
  split
  · exact failLoad_frame ..
  · exact Frame.ite (fun _ => (moveLoader_frame _ s).trans (queueLoad_frame ..)) fun _ => failLoad_frame ..

theorem checkCandidate_frame (s : State) : Frame loadPieces s (checkCandidate s) := by
  unfold checkCandidate
  dsimp only
  split
  · exact (moveLoader_frame _ s).trans (failLoad_frame ..)
  · exact (moveLoader_frame _ s).trans (moveLoader_frame ..)

theorem discardStore_frame (s : State) : Frame [.arbiter] s (discardStore s) := by
  unfold discardStore
  split
  · exact setPort_frame ..
  · exact Frame.refl

theorem discardLoad_frame (s : State) : Frame [.arbiter] s (discardLoad s) := by
  unfold discardLoad
  split
  · exact setPort_frame ..
  · exact Frame.refl

theorem dropStoreClaim_frame (s : State) : Frame [.arbiter] s (dropStoreClaim s) := by
  refine ⟨fun p hp => ?_⟩
  cases p <;> first | exact absurd (by decide) hp | simp [Piece.same]

theorem dropLoadClaim_frame (s : State) : Frame [.arbiter] s (dropLoadClaim s) := by
  refine ⟨fun p hp => ?_⟩
  cases p <;> first | exact absurd (by decide) hp | simp [Piece.same]

theorem withdrawLoad_frame (o : TakenFirst) (s : State) : Frame portPieces s (withdrawLoad o s) := by
  cases o
  · exact (dropLoadClaim_frame s).mono (by decide)
  · exact ((arbitrate_frame s).trans ((discardLoad_frame _).mono (by decide))).trans
      ((dropLoadClaim_frame _).mono (by decide))

theorem withdrawStore_frame (o : TakenFirst) (s : State) : Frame portPieces s (withdrawStore o s) := by
  cases o
  · exact (dropStoreClaim_frame s).mono (by decide)
  · exact ((arbitrate_frame s).trans ((discardStore_frame _).mono (by decide))).trans
      ((dropStoreClaim_frame _).mono (by decide))

theorem configAnswered_frame (r : Response) (d : List BeatData) (o : TakenFirst) (s : State) :
    Frame loadPieces s (configAnswered r d o s) := by
  cases r
  · exact Frame.ite (fun _ => (moveLoader_frame _ s).trans (checkCandidate_frame _)) fun _ => moveLoader_frame _ s
  · exact ((moveLoader_frame _ s).trans ((withdrawLoad_frame ..).mono (by decide))).trans (failLoad_frame ..)

theorem resultAnswered_frame (r : Response) (b : LoadBurst) (s : State) : Frame loadPieces s (resultAnswered r b s) :=
  Frame.ite (fun _ => moveLoader_frame _ s) fun _ => Frame.refl

/-! ### Store steps -/

/-- What a completed part or sequence may move, short of an incident's opening. -/
def partPieces : List Piece := [Piece.directory, .flags, .incidents, .recorderCounts] ++ portPieces

theorem setCounts_frame (c : ClassCounts) (s : State) :
    Frame [.recorderCounts] s { s with recorder := { s.recorder with classCounts := c } } := by
  refine ⟨fun p hp => ?_⟩
  cases p <;> first | exact absurd (by decide) hp | simp [Piece.same]

theorem setStale_frame (b : Bool) (s : State) :
    Frame [.directory] s { s with recorder := { s.recorder with stale := b } } := by
  refine ⟨fun p hp => ?_⟩
  cases p <;> first | exact absurd (by decide) hp | simp [Piece.same]

theorem setScan_frame (n : Nat) (c : Option Scan) (s : State) :
    Frame [.directory] s { s with recorder := { s.recorder with nextSlot := n, scan := c } } := by
  refine ⟨fun p hp => ?_⟩
  cases p <;> first | exact absurd (by decide) hp | simp [Piece.same]

theorem updScan_frame (f : Scan → Scan) (s : State) : Frame [.directory] s (updScan f s) := setScan_frame _ _ s

theorem openEntryDone_frame (b : StoreBurst) (s : State) : Frame partPieces s (openEntryDone b s) :=
  (((setIncidents_frame s.recorder.st _ s.recorder.waiting s).mono (by decide)).trans
    ((applySets_frame ..).mono (by decide))).trans ((reexamine_frame _).mono (by decide))

theorem openEnded_frame (s : State) : Frame closingPieces s (openEnded s) := by
  unfold openEnded
  split
  · exact Frame.refl
  · exact Frame.ite (fun _ => closing_frame ..) fun _ => Frame.ite (fun _ => closing_frame ..) fun _ =>
      setIncidents_frame _ _ s.recorder.waiting s

theorem closeEntryDone_frame (b : StoreBurst) (s : State) :
    Frame (.recorderCounts :: storePieces) s (closeEntryDone b s) :=
  (((applySets_frame b s).mono (by decide)).trans ((setCounts_frame ..).mono (by decide))).trans
    ((reexamine_frame _).mono (by decide))

theorem closeIncident_frame (s : State) : Frame closingPieces s (closeIncident s) :=
  setIncidents_frame .idle none s.recorder.waiting s

theorem closeEnded_frame (b : StoreBurst) (s : State) : Frame triggerPieces s (closeEnded b s) :=
  (((((clearStale_frame b s).mono (by decide)).trans ((setFlag_frame ..).mono (by decide))).trans
    ((closeIncident_frame _).mono (by decide))).trans ((endSequence_frame _).mono (by decide))).trans
    (disposePending_frame _)

theorem headerDone_frame (b : StoreBurst) (s : State) :
    Frame [.directory, .arbiter, .sequences] s (headerDone b s) :=
  ((clearStale_frame b s).mono (by decide)).trans ((endSequence_frame _).mono (by decide))

/-- What the report of a retention directive may move. -/
def reportPieces : List Piece := .keys :: resultPieces

theorem endRetention_frame (r : DirResult) (s : State) : Frame reportPieces s (endRetention r s) := by
  have a := (setKeys_frame { s.retention with inHand := none } s ⟨rfl, rfl, rfl⟩).mono (m := reportPieces) (by decide)
  unfold endRetention
  split
  · exact Frame.refl
  · exact a.trans ((finish_frame ..).mono (by decide))

theorem entryDone_frame (b : StoreBurst) (s : State) : Frame ([Piece.directory, .keys] ++ resultPieces) s (entryDone b s) :=
  ((((applySets_frame b s).mono (by decide)).trans ((reexamine_frame _).mono (by decide))).trans
    ((endRetention_frame ..).mono (by decide))).trans ((endSequence_frame _).mono (by decide))

theorem eraseEnded_frame (b : StoreBurst) (s : State) : Frame (triggerPieces ++ resultPieces) s (eraseEnded b s) :=
  (((((((applySets_frame b s).mono (by decide)).trans ((setStale_frame ..).mono (by decide))).trans
    ((enterStore_frame ..).mono (by decide))).trans ((finish_frame ..).mono (by decide))).trans
    ((closeIncident_frame _).mono (by decide))).trans ((endSequence_frame _).mono (by decide))).trans
    ((disposePending_frame _).mono (by decide))

/-- What the scan may move (R174 to R176). -/
def scanPieces : List Piece := [Piece.directory, .flags, .loader, .recorderCounts] ++ portPieces

theorem endScan_frame (x : StoreState) (s : State) : Frame ([Piece.directory, .flags, .loader] ++ portPieces) s
    (endScan x s) := by
  have a := (((setScan_frame s.recorder.nextSlot none s).mono
    (m := [Piece.directory, .flags, .loader] ++ portPieces) (by decide)).trans
    ((enterStore_frame x _).mono (by decide))).trans ((endSequence_frame _).mono (by decide))
  exact Frame.ite (fun _ => (a.trans ((moveLoader_frame ..).mono (by decide))).trans
    ((setResult_frame ..).mono (by decide))) fun _ => a

theorem scanNext_frame (s : State) : Frame [.arbiter, .sequences] s (scanNext s) := by
  unfold scanNext
  split
  · exact Frame.refl
  · exact askScanParts_frame ..

theorem scanHeaderDone_frame (d : List BeatData) (s : State) :
    Frame ([Piece.directory, .flags, .loader] ++ portPieces) s (scanHeaderDone d s) :=
  Frame.ite (fun _ => ((((setScan_frame _ s.recorder.scan s).mono (by decide)).trans
    ((updScan_frame ..).mono (by decide))).trans ((scanNext_frame _).mono (by decide)))) fun _ => endScan_frame ..

theorem setImageFree_frame (i : List SlotEntry) (n : Nat) (s : State) :
    Frame [.directory, .free] s { s with recorder := { s.recorder with image := i }, free := n } := by
  refine ⟨fun p hp => ?_⟩
  cases p <;> first | exact absurd (by decide) hp | simp [Piece.same]

theorem scanEntriesDone_frame (n : Nat) (d : List BeatData) (s : State) :
    Frame ([Piece.directory, .free] ++ portPieces) s (scanEntriesDone n d s) :=
  (((setImageFree_frame _ _ s).mono (by decide)).trans ((updScan_frame ..).mono (by decide))).trans
    ((scanNext_frame _).mono (by decide))

theorem scanSlotHeaderDone_frame (d : List BeatData) (s : State) : Frame partPieces s (scanSlotHeaderDone d s) :=
  (updScan_frame _ s).mono (by decide)

theorem scanFooterDone_frame (b : Bool) (d : List BeatData) (s : State) : Frame partPieces s (scanFooterDone b d s) := by
  unfold scanFooterDone
  split
  · split
    · split
      · exact (askScanParts_frame ..).mono (by decide)
      · exact Frame.refl
    · exact Frame.refl
  · exact (updScan_frame ..).mono (by decide)

theorem repairDone_frame (e : SlotEntry) (b : StoreBurst) (s : State) : Frame partPieces s (repairDone e b s) := by
  have a := (applySets_frame b s).mono (m := partPieces) (by decide)
  unfold repairDone
  dsimp only
  split
  · exact (a.trans ((setCounts_frame ..).mono (by decide))).trans ((updScan_frame ..).mono (by decide))
  · exact a.trans ((updScan_frame ..).mono (by decide))

theorem burstDone_frame (d : List BeatData) (b : StoreBurst) (s : State) : Frame partPieces s (burstDone d b s) := by
  unfold burstDone
  split
  · exact openEntryDone_frame ..
  · exact (clearStale_frame ..).mono (by decide)
  · exact (setScan_frame 0 s.recorder.scan s).mono (by decide)
  · exact ((applySets_frame b s).mono (by decide)).trans ((reexamine_frame _).mono (by decide))
  · exact scanSlotHeaderDone_frame ..
  · exact scanFooterDone_frame ..
  · exact repairDone_frame ..
  all_goals exact Frame.refl

theorem setLifetime_frame (n : Nat) (s : State) :
    Frame [.recorderCounts] s { s with recorder := { s.recorder with lifetime := n } } := by
  refine ⟨fun p hp => ?_⟩
  cases p <;> first | exact absurd (by decide) hp | simp [Piece.same]

theorem reconcile_frame (s : State) : Frame scanPieces s (reconcile s) := by
  have a := (setLifetime_frame (max s.recorder.lifetime (highestNumber s.recorder.image)) s).mono (m := scanPieces)
    (by decide)
  unfold reconcile
  dsimp only
  split
  · exact Frame.ite (fun _ => a.trans ((endScan_frame ..).mono (by decide))) fun _ =>
      a.trans ((askScanParts_frame ..).mono (by decide))
  · exact a

theorem scanEndEffect_frame (r : Option Response) (o : TakenFirst) (s : State) :
    Frame scanPieces s (scanEndEffect r o s) := by
  unfold scanEndEffect
  split
  · exact guarded_frame _ reconcile_frame s
  · refine onStore_frame _ (fun b u => ?_) (by decide) s
    exact ((clearStale_frame b u).mono (by decide)).trans ((endScan_frame ..).mono (by decide))
  · refine onStore_frame _ (fun b u => ?_) (by decide) s
    exact (((setRunning_frame none u).mono (by decide)).trans ((withdrawStore_frame ..).mono (by decide))).trans
      ((endScan_frame ..).mono (by decide))

/-- What a store write fault may move. -/
def faultPieces : List Piece := .keys :: triggerPieces ++ resultPieces ++ portPieces

theorem unstorePending_frame (s : State) : Frame triggerPieces s (unstorePending s) := by
  unfold unstorePending
  split
  · exact ((setIncidents_frame s.recorder.st s.recorder.incident none s).mono (by decide)).trans (unstored_frame ..)
  · exact Frame.refl

theorem reportFailed_frame (f : Option Sequence) (w : List Sequence) (s : State) :
    Frame reportPieces s (reportFailed f w s) := by
  have a : Frame reportPieces s (if ((f.toList ++ w).any fun q => q.entryMark.isSome) then endRetention .failed s
      else s) := Frame.ite (fun _ => endRetention_frame ..) fun _ => Frame.refl
  exact Frame.ite (fun _ => a.trans ((finish_frame ..).mono (by decide))) fun _ => a

theorem writeFault_frame (o : TakenFirst) (s : State) : Frame faultPieces s (writeFault o s) :=
  ((((((((setRunning_frame none s).mono (by decide)).trans ((withdrawStore_frame ..).mono (by decide))).trans
    ((enterStore_frame ..).mono (by decide))).trans ((setFlag_frame ..).mono (by decide))).trans ((setIncidents_frame _ none _ _).mono (by decide))).trans
    ((unstorePending_frame _).mono (by decide))).trans ((setQueue_frame [] _).mono (by decide))).trans
    (((reportFailed_frame ..).mono (by decide)).trans ((setIncidents_frame .idle _ _ _).mono (by decide)))

end Sys2Proof.Machine
end

