-- ==== Sys2Proof/Laws/Owners.lean ====
section
/-! SUPPORT. Frames of the directives' owners, of the install step and of the resets. -/

namespace Sys2Proof.Machine

/-! ### Directives -/

theorem acknowledgeFlags_frame (x : Slot) (s : State) : Frame resultPieces s (acknowledgeFlags x s) :=
  (finish_frame ..).trans ((clearFlags_frame ..).mono (by decide))

theorem setDirect_frame (b : Bool) (s : State) :
    Frame [.directLevel] s { s with status := { s.status with direct := b } } := by
  refine ⟨fun p hp => ?_⟩
  cases p <;> first | exact absurd (by decide) hp | simp [Piece.same]

theorem setIndication_frame (x : Slot) (s : State) : Frame (.directLevel :: resultPieces) s (setIndication x s) :=
  Frame.ite (fun _ => ((setDirect_frame _ s).mono (by decide)).trans ((finish_frame ..).mono (by decide))) fun _ =>
    (finish_frame ..).mono (by decide)

theorem setTime_frame (x : Slot) (s : State) : Frame (.clock :: resultPieces) s (setTime x s) :=
  ((setClock_frame _ s).mono (by decide)).trans ((finish_frame ..).mono (by decide))

theorem armTriggerLine_frame (x : Slot) (s : State) : Frame (.lines :: resultPieces) s (armTriggerLine x s) :=
  ((setLine_frame _ _ s).mono (by decide)).trans ((finish_frame ..).mono (by decide))

theorem triggerIncident_frame (x : Slot) (s : State) : Frame (triggerPieces ++ resultPieces) s (triggerIncident x s) :=
  (((traceTrigger_frame _ s).mono (by decide)).trans ((assemble_frame ..).mono (by decide))).trans
    ((finish_frame ..).mono (by decide))

theorem eraseStore_frame (x : Slot) (s : State) : Frame reportPieces s (eraseStore x s) := by
  unfold eraseStore
  split
  · exact (finish_frame ..).mono (by decide)
  · exact (((setIncidents_frame .erasing s.recorder.incident s.recorder.waiting s).mono (by decide)).trans
      ((askSequence_frame ..).mono (by decide))).trans ((inProgress_frame _).mono (by decide))

theorem changeRetention_frame (c : DirectiveCode) (m : Bool) (x : Slot) (s : State) :
    Frame reportPieces s (changeRetention c m x s) := by
  unfold changeRetention
  dsimp only
  split
  · exact (finish_frame ..).mono (by decide)
  · exact (((setKeys_frame { s.retention with inHand := some (field 0 2 x.args, m) } s ⟨rfl, rfl, rfl⟩).mono
      (by decide)).trans ((askSequence_frame ..).mono (by decide))).trans ((inProgress_frame _).mono (by decide))

theorem setKey_frame (x : Slot) (s : State) : Frame reportPieces s (setKey x s) := by
  have a : ∀ k v, Frame reportPieces s { s with retention := s.retention.setKey k v } := fun k v => by
    cases k
    · exact (setKeys_frame { s.retention with maintenance := some v } s ⟨rfl, rfl, rfl⟩).mono (by decide)
    · exact (setKeys_frame { s.retention with authority := some v } s ⟨rfl, rfl, rfl⟩).mono (by decide)
  exact (a _ _).trans ((finish_frame ..).mono (by decide))

theorem setRetentionLevel_frame (x : Slot) (s : State) : Frame reportPieces s (setRetentionLevel x s) :=
  ((setKeys_frame { s.retention with strict := field 0 1 x.args == 1 } s ⟨rfl, rfl, rfl⟩).mono (by decide)).trans
    ((finish_frame ..).mono (by decide))

theorem resetHealth_frame (s : State) : Frame (.health :: reportPieces) s (resetHealth s) :=
  ((setHealth_frame _ _ _ s).mono (by decide)).trans ((finish_frame ..).mono (by decide))

theorem freeze_frame (s : State) : Frame reportPieces s (freeze s) :=
  ((setKeys_frame { s.retention with frozen := true } s ⟨rfl, rfl, rfl⟩).mono (by decide)).trans
    ((finish_frame ..).mono (by decide))

theorem resetPenalty_frame (s : State) : Frame demandPieces s (resetPenalty s) :=
  Frame.ite (fun _ => ((((setDemand_frame _ s).mono (by decide)).trans (traceDState_frame ..)).trans
    (hand_frame ..)).trans ((finish_frame ..).mono (by decide))) fun _ => (finish_frame ..).mono (by decide)

theorem resetEmergency_frame (s : State) : Frame demandPieces s (resetEmergency s) :=
  Frame.ite (fun _ => ((((setDemand_frame _ s).mono (by decide)).trans (traceDState_frame ..)).trans
    (hand_frame ..)).trans ((finish_frame ..).mono (by decide))) fun _ => (finish_frame ..).mono (by decide)

theorem clearSlideFault_frame (x : Slot) (s : State) : Frame brakePieces s (clearSlideFault x s) :=
  Frame.ite (fun _ => (slideEvent_frame ..).trans ((finish_frame ..).mono (by decide))) fun _ =>
    (finish_frame ..).mono (by decide)

theorem testAirPath_frame (s : State) : Frame airStepPieces s (testAirPath s) := by
  have a := ((setAir_frame { s.air with source := .test } s).trans
    ((trace_frame (.test .aApply .started) _).mono (by decide))).trans (enterPhase_frame .aApply _)
  exact Frame.ite (fun _ => a.trans ((inProgress_frame _).mono (by decide))) fun _ => (finish_frame ..).mono (by decide)

theorem abortTest_frame {f : DirResult → State → State} (h : ∀ r u, Frame airStepPieces u (f r u)) (s : State) :
    Frame airStepPieces s (abortTest f s) :=
  Frame.ite (fun _ => h ..) fun _ => endTestWith_frame (fun _ => h ..) .aborted s

theorem abortAirPathTest_frame (s : State) : Frame airStepPieces s (abortAirPathTest s) := by
  unfold abortAirPathTest
  split
  · rename_i n rest _
    exact ((setSlot_frame { s.decoder with aborts := rest } rfl).mono (by decide)).trans
      (abortTest_frame (fun _ _ => (publish_frame ..).mono (by decide)) _)
  · exact onDirective_frame _ (fun _ u => abortTest_frame (fun _ _ => (finish_frame ..).mono (by decide)) u) s

theorem startRelease_frame (s : State) : Frame brakePieces s (startRelease s) :=
  ((((setTraction_frame _ s).trans ((emit_frame ..).mono (by decide))).trans (enterTraction_frame ..)).mono
    (by decide)).trans (((inProgress_frame _).mono (by decide)).trans (blendEvent_frame ..))

theorem releaseTraction_frame (s : State) : Frame brakePieces s (releaseTraction s) :=
  Frame.ite (fun _ => startRelease_frame s) fun _ => (finish_frame ..).mono (by decide)

theorem resumeTraction_frame (s : State) : Frame brakePieces s (resumeTraction s) :=
  Frame.ite (fun _ => (((startResume_frame .directive s).mono (by decide)).trans
    ((inProgress_frame _).mono (by decide))).trans (blendEvent_frame ..)) fun _ => (finish_frame ..).mono (by decide)

/-! ### Install step -/

/-- What the install step may move (R30, R33). -/
def installPieces : List Piece := allBut [.inputs, .receivers, .clock, .keys, .directLevel, .free, .pending]

theorem installValues_frame (ws : List Window) (p : Params) (s : State) :
    Frame installPieces s (installValues ws p s) := by
  refine ⟨fun q hq => ?_⟩
  cases q <;> first | exact absurd (by decide) hq | simp [Piece.same, installValues, Retention.recompute]

theorem reloadValues_frame (s : State) : Frame installPieces s (reloadValues s) := by
  refine ⟨fun q hq => ?_⟩
  cases q <;> first | exact absurd (by decide) hq | simp [Piece.same, reloadValues]

/-- What the handover of the store scan may move (R174). -/
def handoverPieces : List Piece := [.arbiter, .sequences, .directory]

theorem clearStore_frame (i : List SlotEntry) (c : Option Scan) (s : State) :
    Frame handoverPieces s { s with recorder := { s.recorder with
      running := none, queue := [], store := .scanning, image := i, nextSlot := 0, scan := c } } := by
  refine ⟨fun q hq => ?_⟩
  cases q <;> first | exact absurd (by decide) hq | simp [Piece.same]

theorem handScan_frame (s : State) : Frame handoverPieces s (handScan s) :=
  ((((discardStore_frame s).mono (by decide)).trans ((dropStoreClaim_frame _).mono (by decide))).trans
    (clearStore_frame ..)).trans ((askSequence_frame ..).mono (by decide))

theorem loaderGoesOn_frame (b : Bool) (s : State) : Frame (handoverPieces ++ loadPieces) s (loaderGoesOn b s) :=
  Frame.ite (fun _ => ((moveLoader_frame _ s).mono (by decide)).trans ((handScan_frame _).mono (by decide))) fun _ =>
    ((moveLoader_frame _ s).mono (by decide)).trans ((setResult_frame ..).mono (by decide))

theorem setHanded_frame (x : DemandState) (s : State) :
    Frame [.demandHanded] s { s with status := { s.status with demandHanded := x } } := by
  refine ⟨fun p hp => ?_⟩
  cases p <;> first | exact absurd (by decide) hp | simp [Piece.same]

theorem installEvents_frame (b : Bool) (s : State) : Frame brakePieces s (installEvents b s) := by
  have a := fun u => ((slideRun_frame .exam u).mono (m := brakePieces) (by decide)).trans (blendEvent_frame true _)
  exact Frame.ite (fun _ => (((setHanded_frame _ s).mono (by decide)).trans (a _)).trans
    (withTractionChange_frame _ _ (linksTakeDemand_frame ..) (by decide))) fun _ => a s

theorem install_frame (b : Bool) (s : State) : Frame installPieces s (install b s) := by
  have a := fun ws p => (installValues_frame ws p s).trans ((installLines_frame s.params.lines _).mono (by decide))
  have c := fun ws p => Frame.ite (b := (s.loader.origin == .reload) = true)
    (fun _ => ((a ws p).trans (reloadValues_frame _)).trans
      ((traceDState_frame s.demand.st .noDemand .reload _).mono (by decide))) fun _ => a ws p
  have d := fun ws p k => (c ws p).trans ((loaderGoesOn_frame k _).mono (by decide))
  exact Frame.ite (fun _ => ((d _ _ _).trans ((detectLines_frame ..).mono (by decide))).trans
    ((installEvents_frame ..).mono (by decide))) fun _ => ((d _ _ _).trans ((installEvents_frame ..).mono
    (by decide))).trans ((detectLines_frame ..).mono (by decide))

theorem endChecking_frame (b : Bool) (s : State) : Frame installPieces s (endChecking b s) := by
  unfold endChecking
  split
  · exact (failLoad_frame ..).mono (by decide)
  · exact install_frame ..

/-! ### Resets -/

theorem powerOnState_frame (s : State) : Frame (allBut [.free, .pending]) s (powerOnState s) := by
  refine ⟨fun q hq => ?_⟩
  cases q <;> first | exact absurd (by decide) hq | simp [Piece.same, powerOnState]

/-- What the core reset's assertion may move (R22). -/
def corePieces : List Piece := allBut [.params, .recorderCounts, .clock, .health, .demandHanded, .free, .pending]

theorem resetArbiter_frame (s : State) : Frame [.arbiter] s (resetArbiter s) := by
  refine ((discardStore_frame s).trans (discardLoad_frame _)).trans ⟨fun p hp => ?_⟩
  cases p <;> first | exact absurd (by decide) hp | simp [Piece.same, resetArbiter]

theorem coreState_frame (s : State) : Frame corePieces s (coreState s) := by
  refine ((resetArbiter_frame s).mono (by decide)).trans ⟨fun q hq => ?_⟩
  cases q <;> first | exact absurd (by decide) hq | simp [Piece.same, coreState, Recorder.reset]

theorem assertCore_frame (s : State) : Frame corePieces s (assertCore s) :=
  Frame.ite (fun _ => (setInputs_frame _ s).mono (by decide)) fun _ => coreState_frame s

/-- What a release may move, the inputs and the calendar apart (R21, R22). -/
def releasePieces : List Piece :=
  allBut [.inputs, .params, .path, .receivers, .assembly, .clock, .keys, .directLevel, .free, .pending]

theorem linesAt_frame (a b : Bool) (s : State) : Frame releasePieces s (linesAt a b s) :=
  Frame.ite (fun _ => (detectLines_frame a s).mono (by decide)) fun _ => Frame.refl

theorem publishAbandoned_frame (s : State) : Frame releasePieces s (publishAbandoned s) := by
  unfold publishAbandoned
  split
  · exact ((setSlot_frame { s.decoder with abandoned := none } rfl).mono (by decide)).trans
      ((publish_frame ..).mono (by decide))
  · exact Frame.refl

theorem sampleStraps_frame (a b : Bool) (s : State) : Frame releasePieces s (sampleStraps a b s) :=
  ((moveLoader_frame _ s).mono (by decide)).trans ((beginLoad_frame ..).mono (by decide))

theorem leaveReset_frame (a b : Bool) (p : LinePlace) (s : State) : Frame releasePieces s (leaveReset a b p s) := by
  have c : Frame releasePieces s (startTimers (flagClock s)) :=
    (Frame.ite (fun _ => Frame.refl) fun _ => (setFlag_frame ..).mono (by decide)).trans
      (((setSpeed_frame ..).mono (by decide)).trans ((startLines_frame _).mono (by decide)))
  exact (((((c.trans (linesAt_frame ..)).trans (publishAbandoned_frame _)).trans (linesAt_frame ..)).trans
    ((handDemand_frame ..).mono (by decide))).trans (linesAt_frame ..)).trans (sampleStraps_frame ..)

theorem releaseCore_frame (a b : Bool) (p : LinePlace) (s : State) :
    Frame (.inputs :: releasePieces) s (releaseCore a b p s) := by
  have c := (setInputs_frame { s.inputs with coreReset := false } s).mono (m := .inputs :: releasePieces) (by decide)
  exact Frame.ite (fun _ => c) fun _ => c.trans ((leaveReset_frame ..).mono (by decide))

theorem releasePowerOn_frame (a b g : Bool) (s : State) :
    Frame (.inputs :: .clock :: releasePieces) s (releasePowerOn a b g s) := by
  have c := (setInputs_frame { s.inputs with powerOnReset := false } s).mono
    (m := .inputs :: .clock :: releasePieces) (by decide)
  have d := c.trans (Frame.ite (b := g = true) (fun _ => Frame.refl) fun _ =>
    (setClock_frame { s.clock with cal := .first, valid := false } _).mono (by decide))
  exact Frame.ite (fun _ => d) fun _ => d.trans ((leaveReset_frame ..).mono (by decide))

end Sys2Proof.Machine
end

