-- ==== Sys2Proof/Laws/Fields.lean ====
section
/-! SUPPORT. What the shared operations leave, field by field: the frames read as rewriting rules. -/

namespace Sys2Proof.Machine

/-! ### arbitrate -/

@[simp] theorem arbitrate_inputs (s : State) : (arbitrate s).inputs = s.inputs :=
  (arbitrate_frame s).same .inputs (by decide)

@[simp] theorem arbitrate_params (s : State) : (arbitrate s).params = s.params :=
  (arbitrate_frame s).same .params (by decide)

@[simp] theorem arbitrate_path (s : State) : (arbitrate s).path = s.path := (arbitrate_frame s).same .path (by decide)

@[simp] theorem arbitrate_demand (s : State) : (arbitrate s).demand = s.demand :=
  (arbitrate_frame s).same .demand (by decide)

@[simp] theorem arbitrate_blend (s : State) : (arbitrate s).blend = s.blend :=
  (arbitrate_frame s).same .blend (by decide)

@[simp] theorem arbitrate_speed (s : State) : (arbitrate s).speed = s.speed :=
  (arbitrate_frame s).same .speed (by decide)

@[simp] theorem arbitrate_slide (s : State) : (arbitrate s).slide = s.slide :=
  (arbitrate_frame s).same .slide (by decide)

@[simp] theorem arbitrate_traction (s : State) : (arbitrate s).traction = s.traction :=
  (arbitrate_frame s).same .traction (by decide)

@[simp] theorem arbitrate_air (s : State) : (arbitrate s).air = s.air := (arbitrate_frame s).same .air (by decide)

@[simp] theorem arbitrate_rx (s : State) : (arbitrate s).rx = s.rx := (arbitrate_frame s).same .receivers (by decide)

@[simp] theorem arbitrate_clock (s : State) : (arbitrate s).clock = s.clock :=
  (arbitrate_frame s).same .clock (by decide)

@[simp] theorem arbitrate_lines (s : State) : (arbitrate s).lines = s.lines :=
  (arbitrate_frame s).same .lines (by decide)

@[simp] theorem arbitrate_free (s : State) : (arbitrate s).free = s.free := (arbitrate_frame s).same .free (by decide)

@[simp] theorem arbitrate_pending (s : State) : (arbitrate s).pending = s.pending :=
  (arbitrate_frame s).same .pending (by decide)

@[simp] theorem arbitrate_anyReset (s : State) : (arbitrate s).anyReset = s.anyReset :=
  (arbitrate_frame s).anyReset_eq (by decide)

/-! ### setFlag -/

@[simp] theorem setFlag_inputs (f : EventFlag) (s : State) : (setFlag f s).inputs = s.inputs :=
  (setFlag_frame f s).same .inputs (by decide)

@[simp] theorem setFlag_params (f : EventFlag) (s : State) : (setFlag f s).params = s.params :=
  (setFlag_frame f s).same .params (by decide)

@[simp] theorem setFlag_path (f : EventFlag) (s : State) : (setFlag f s).path = s.path :=
  (setFlag_frame f s).same .path (by decide)

@[simp] theorem setFlag_demand (f : EventFlag) (s : State) : (setFlag f s).demand = s.demand :=
  (setFlag_frame f s).same .demand (by decide)

@[simp] theorem setFlag_blend (f : EventFlag) (s : State) : (setFlag f s).blend = s.blend :=
  (setFlag_frame f s).same .blend (by decide)

@[simp] theorem setFlag_speed (f : EventFlag) (s : State) : (setFlag f s).speed = s.speed :=
  (setFlag_frame f s).same .speed (by decide)

@[simp] theorem setFlag_slide (f : EventFlag) (s : State) : (setFlag f s).slide = s.slide :=
  (setFlag_frame f s).same .slide (by decide)

@[simp] theorem setFlag_traction (f : EventFlag) (s : State) : (setFlag f s).traction = s.traction :=
  (setFlag_frame f s).same .traction (by decide)

@[simp] theorem setFlag_air (f : EventFlag) (s : State) : (setFlag f s).air = s.air :=
  (setFlag_frame f s).same .air (by decide)

@[simp] theorem setFlag_rx (f : EventFlag) (s : State) : (setFlag f s).rx = s.rx :=
  (setFlag_frame f s).same .receivers (by decide)

@[simp] theorem setFlag_clock (f : EventFlag) (s : State) : (setFlag f s).clock = s.clock :=
  (setFlag_frame f s).same .clock (by decide)

@[simp] theorem setFlag_lines (f : EventFlag) (s : State) : (setFlag f s).lines = s.lines :=
  (setFlag_frame f s).same .lines (by decide)

@[simp] theorem setFlag_free (f : EventFlag) (s : State) : (setFlag f s).free = s.free :=
  (setFlag_frame f s).same .free (by decide)

@[simp] theorem setFlag_pending (f : EventFlag) (s : State) : (setFlag f s).pending = s.pending :=
  (setFlag_frame f s).same .pending (by decide)

@[simp] theorem setFlag_emitted (f : EventFlag) (s : State) : (setFlag f s).emitted = s.emitted :=
  (setFlag_frame f s).same .emitted (by decide)

@[simp] theorem setFlag_arb (f : EventFlag) (s : State) : (setFlag f s).arb = s.arb :=
  (setFlag_frame f s).same .arbiter (by decide)

@[simp] theorem setFlag_anyReset (f : EventFlag) (s : State) : (setFlag f s).anyReset = s.anyReset :=
  (setFlag_frame f s).anyReset_eq (by decide)

/-! ### askSequence -/

@[simp] theorem askSequence_inputs (q : Sequence) (s : State) : (askSequence q s).inputs = s.inputs :=
  (askSequence_frame q s).same .inputs (by decide)

@[simp] theorem askSequence_params (q : Sequence) (s : State) : (askSequence q s).params = s.params :=
  (askSequence_frame q s).same .params (by decide)

@[simp] theorem askSequence_path (q : Sequence) (s : State) : (askSequence q s).path = s.path :=
  (askSequence_frame q s).same .path (by decide)

@[simp] theorem askSequence_demand (q : Sequence) (s : State) : (askSequence q s).demand = s.demand :=
  (askSequence_frame q s).same .demand (by decide)

@[simp] theorem askSequence_blend (q : Sequence) (s : State) : (askSequence q s).blend = s.blend :=
  (askSequence_frame q s).same .blend (by decide)

@[simp] theorem askSequence_speed (q : Sequence) (s : State) : (askSequence q s).speed = s.speed :=
  (askSequence_frame q s).same .speed (by decide)

@[simp] theorem askSequence_slide (q : Sequence) (s : State) : (askSequence q s).slide = s.slide :=
  (askSequence_frame q s).same .slide (by decide)

@[simp] theorem askSequence_traction (q : Sequence) (s : State) : (askSequence q s).traction = s.traction :=
  (askSequence_frame q s).same .traction (by decide)

@[simp] theorem askSequence_air (q : Sequence) (s : State) : (askSequence q s).air = s.air :=
  (askSequence_frame q s).same .air (by decide)

@[simp] theorem askSequence_rx (q : Sequence) (s : State) : (askSequence q s).rx = s.rx :=
  (askSequence_frame q s).same .receivers (by decide)

@[simp] theorem askSequence_clock (q : Sequence) (s : State) : (askSequence q s).clock = s.clock :=
  (askSequence_frame q s).same .clock (by decide)

@[simp] theorem askSequence_lines (q : Sequence) (s : State) : (askSequence q s).lines = s.lines :=
  (askSequence_frame q s).same .lines (by decide)

@[simp] theorem askSequence_free (q : Sequence) (s : State) : (askSequence q s).free = s.free :=
  (askSequence_frame q s).same .free (by decide)

@[simp] theorem askSequence_pending (q : Sequence) (s : State) : (askSequence q s).pending = s.pending :=
  (askSequence_frame q s).same .pending (by decide)

@[simp] theorem askSequence_emitted (q : Sequence) (s : State) : (askSequence q s).emitted = s.emitted :=
  (askSequence_frame q s).same .emitted (by decide)

@[simp] theorem askSequence_anyReset (q : Sequence) (s : State) : (askSequence q s).anyReset = s.anyReset :=
  (askSequence_frame q s).anyReset_eq (by decide)

/-! ### endSequence -/

@[simp] theorem endSequence_inputs (s : State) : (endSequence s).inputs = s.inputs :=
  (endSequence_frame s).same .inputs (by decide)

@[simp] theorem endSequence_params (s : State) : (endSequence s).params = s.params :=
  (endSequence_frame s).same .params (by decide)

@[simp] theorem endSequence_path (s : State) : (endSequence s).path = s.path :=
  (endSequence_frame s).same .path (by decide)

@[simp] theorem endSequence_demand (s : State) : (endSequence s).demand = s.demand :=
  (endSequence_frame s).same .demand (by decide)

@[simp] theorem endSequence_blend (s : State) : (endSequence s).blend = s.blend :=
  (endSequence_frame s).same .blend (by decide)

@[simp] theorem endSequence_speed (s : State) : (endSequence s).speed = s.speed :=
  (endSequence_frame s).same .speed (by decide)

@[simp] theorem endSequence_slide (s : State) : (endSequence s).slide = s.slide :=
  (endSequence_frame s).same .slide (by decide)

@[simp] theorem endSequence_traction (s : State) : (endSequence s).traction = s.traction :=
  (endSequence_frame s).same .traction (by decide)

@[simp] theorem endSequence_air (s : State) : (endSequence s).air = s.air :=
  (endSequence_frame s).same .air (by decide)

@[simp] theorem endSequence_rx (s : State) : (endSequence s).rx = s.rx :=
  (endSequence_frame s).same .receivers (by decide)

@[simp] theorem endSequence_clock (s : State) : (endSequence s).clock = s.clock :=
  (endSequence_frame s).same .clock (by decide)

@[simp] theorem endSequence_lines (s : State) : (endSequence s).lines = s.lines :=
  (endSequence_frame s).same .lines (by decide)

@[simp] theorem endSequence_free (s : State) : (endSequence s).free = s.free :=
  (endSequence_frame s).same .free (by decide)

@[simp] theorem endSequence_pending (s : State) : (endSequence s).pending = s.pending :=
  (endSequence_frame s).same .pending (by decide)

@[simp] theorem endSequence_emitted (s : State) : (endSequence s).emitted = s.emitted :=
  (endSequence_frame s).same .emitted (by decide)

@[simp] theorem endSequence_anyReset (s : State) : (endSequence s).anyReset = s.anyReset :=
  (endSequence_frame s).anyReset_eq (by decide)

/-! ### enterStore -/

@[simp] theorem enterStore_inputs (x : StoreState) (s : State) : (enterStore x s).inputs = s.inputs :=
  (enterStore_frame x s).same .inputs (by decide)

@[simp] theorem enterStore_params (x : StoreState) (s : State) : (enterStore x s).params = s.params :=
  (enterStore_frame x s).same .params (by decide)

@[simp] theorem enterStore_path (x : StoreState) (s : State) : (enterStore x s).path = s.path :=
  (enterStore_frame x s).same .path (by decide)

@[simp] theorem enterStore_demand (x : StoreState) (s : State) : (enterStore x s).demand = s.demand :=
  (enterStore_frame x s).same .demand (by decide)

@[simp] theorem enterStore_blend (x : StoreState) (s : State) : (enterStore x s).blend = s.blend :=
  (enterStore_frame x s).same .blend (by decide)

@[simp] theorem enterStore_speed (x : StoreState) (s : State) : (enterStore x s).speed = s.speed :=
  (enterStore_frame x s).same .speed (by decide)

@[simp] theorem enterStore_slide (x : StoreState) (s : State) : (enterStore x s).slide = s.slide :=
  (enterStore_frame x s).same .slide (by decide)

@[simp] theorem enterStore_traction (x : StoreState) (s : State) : (enterStore x s).traction = s.traction :=
  (enterStore_frame x s).same .traction (by decide)

@[simp] theorem enterStore_air (x : StoreState) (s : State) : (enterStore x s).air = s.air :=
  (enterStore_frame x s).same .air (by decide)

@[simp] theorem enterStore_rx (x : StoreState) (s : State) : (enterStore x s).rx = s.rx :=
  (enterStore_frame x s).same .receivers (by decide)

@[simp] theorem enterStore_clock (x : StoreState) (s : State) : (enterStore x s).clock = s.clock :=
  (enterStore_frame x s).same .clock (by decide)

@[simp] theorem enterStore_lines (x : StoreState) (s : State) : (enterStore x s).lines = s.lines :=
  (enterStore_frame x s).same .lines (by decide)

@[simp] theorem enterStore_free (x : StoreState) (s : State) : (enterStore x s).free = s.free :=
  (enterStore_frame x s).same .free (by decide)

@[simp] theorem enterStore_pending (x : StoreState) (s : State) : (enterStore x s).pending = s.pending :=
  (enterStore_frame x s).same .pending (by decide)

@[simp] theorem enterStore_emitted (x : StoreState) (s : State) : (enterStore x s).emitted = s.emitted :=
  (enterStore_frame x s).same .emitted (by decide)

@[simp] theorem enterStore_anyReset (x : StoreState) (s : State) : (enterStore x s).anyReset = s.anyReset :=
  (enterStore_frame x s).anyReset_eq (by decide)

/-! ### reexamine -/

@[simp] theorem reexamine_inputs (s : State) : (reexamine s).inputs = s.inputs :=
  (reexamine_frame s).same .inputs (by decide)

@[simp] theorem reexamine_params (s : State) : (reexamine s).params = s.params :=
  (reexamine_frame s).same .params (by decide)

@[simp] theorem reexamine_path (s : State) : (reexamine s).path = s.path := (reexamine_frame s).same .path (by decide)

@[simp] theorem reexamine_demand (s : State) : (reexamine s).demand = s.demand :=
  (reexamine_frame s).same .demand (by decide)

@[simp] theorem reexamine_blend (s : State) : (reexamine s).blend = s.blend :=
  (reexamine_frame s).same .blend (by decide)

@[simp] theorem reexamine_speed (s : State) : (reexamine s).speed = s.speed :=
  (reexamine_frame s).same .speed (by decide)

@[simp] theorem reexamine_slide (s : State) : (reexamine s).slide = s.slide :=
  (reexamine_frame s).same .slide (by decide)

@[simp] theorem reexamine_traction (s : State) : (reexamine s).traction = s.traction :=
  (reexamine_frame s).same .traction (by decide)

@[simp] theorem reexamine_air (s : State) : (reexamine s).air = s.air := (reexamine_frame s).same .air (by decide)

@[simp] theorem reexamine_rx (s : State) : (reexamine s).rx = s.rx := (reexamine_frame s).same .receivers (by decide)

@[simp] theorem reexamine_clock (s : State) : (reexamine s).clock = s.clock :=
  (reexamine_frame s).same .clock (by decide)

@[simp] theorem reexamine_lines (s : State) : (reexamine s).lines = s.lines :=
  (reexamine_frame s).same .lines (by decide)

@[simp] theorem reexamine_free (s : State) : (reexamine s).free = s.free := (reexamine_frame s).same .free (by decide)

@[simp] theorem reexamine_pending (s : State) : (reexamine s).pending = s.pending :=
  (reexamine_frame s).same .pending (by decide)

@[simp] theorem reexamine_emitted (s : State) : (reexamine s).emitted = s.emitted :=
  (reexamine_frame s).same .emitted (by decide)

@[simp] theorem reexamine_anyReset (s : State) : (reexamine s).anyReset = s.anyReset :=
  (reexamine_frame s).anyReset_eq (by decide)

/-! ### applySets -/

@[simp] theorem applySets_inputs (b : StoreBurst) (s : State) : (applySets b s).inputs = s.inputs :=
  (applySets_frame b s).same .inputs (by decide)

@[simp] theorem applySets_params (b : StoreBurst) (s : State) : (applySets b s).params = s.params :=
  (applySets_frame b s).same .params (by decide)

@[simp] theorem applySets_path (b : StoreBurst) (s : State) : (applySets b s).path = s.path :=
  (applySets_frame b s).same .path (by decide)

@[simp] theorem applySets_demand (b : StoreBurst) (s : State) : (applySets b s).demand = s.demand :=
  (applySets_frame b s).same .demand (by decide)

@[simp] theorem applySets_blend (b : StoreBurst) (s : State) : (applySets b s).blend = s.blend :=
  (applySets_frame b s).same .blend (by decide)

@[simp] theorem applySets_speed (b : StoreBurst) (s : State) : (applySets b s).speed = s.speed :=
  (applySets_frame b s).same .speed (by decide)

@[simp] theorem applySets_slide (b : StoreBurst) (s : State) : (applySets b s).slide = s.slide :=
  (applySets_frame b s).same .slide (by decide)

@[simp] theorem applySets_traction (b : StoreBurst) (s : State) : (applySets b s).traction = s.traction :=
  (applySets_frame b s).same .traction (by decide)

@[simp] theorem applySets_air (b : StoreBurst) (s : State) : (applySets b s).air = s.air :=
  (applySets_frame b s).same .air (by decide)

@[simp] theorem applySets_rx (b : StoreBurst) (s : State) : (applySets b s).rx = s.rx :=
  (applySets_frame b s).same .receivers (by decide)

@[simp] theorem applySets_clock (b : StoreBurst) (s : State) : (applySets b s).clock = s.clock :=
  (applySets_frame b s).same .clock (by decide)

@[simp] theorem applySets_lines (b : StoreBurst) (s : State) : (applySets b s).lines = s.lines :=
  (applySets_frame b s).same .lines (by decide)

@[simp] theorem applySets_free (b : StoreBurst) (s : State) : (applySets b s).free = s.free :=
  (applySets_frame b s).same .free (by decide)

@[simp] theorem applySets_pending (b : StoreBurst) (s : State) : (applySets b s).pending = s.pending :=
  (applySets_frame b s).same .pending (by decide)

@[simp] theorem applySets_emitted (b : StoreBurst) (s : State) : (applySets b s).emitted = s.emitted :=
  (applySets_frame b s).same .emitted (by decide)

@[simp] theorem applySets_arb (b : StoreBurst) (s : State) : (applySets b s).arb = s.arb :=
  (applySets_frame b s).same .arbiter (by decide)

@[simp] theorem applySets_anyReset (b : StoreBurst) (s : State) : (applySets b s).anyReset = s.anyReset :=
  (applySets_frame b s).anyReset_eq (by decide)

/-! ### clearStale -/

@[simp] theorem clearStale_inputs (b : StoreBurst) (s : State) : (clearStale b s).inputs = s.inputs :=
  (clearStale_frame b s).same .inputs (by decide)

@[simp] theorem clearStale_params (b : StoreBurst) (s : State) : (clearStale b s).params = s.params :=
  (clearStale_frame b s).same .params (by decide)

@[simp] theorem clearStale_path (b : StoreBurst) (s : State) : (clearStale b s).path = s.path :=
  (clearStale_frame b s).same .path (by decide)

@[simp] theorem clearStale_demand (b : StoreBurst) (s : State) : (clearStale b s).demand = s.demand :=
  (clearStale_frame b s).same .demand (by decide)

@[simp] theorem clearStale_blend (b : StoreBurst) (s : State) : (clearStale b s).blend = s.blend :=
  (clearStale_frame b s).same .blend (by decide)

@[simp] theorem clearStale_speed (b : StoreBurst) (s : State) : (clearStale b s).speed = s.speed :=
  (clearStale_frame b s).same .speed (by decide)

@[simp] theorem clearStale_slide (b : StoreBurst) (s : State) : (clearStale b s).slide = s.slide :=
  (clearStale_frame b s).same .slide (by decide)

@[simp] theorem clearStale_traction (b : StoreBurst) (s : State) : (clearStale b s).traction = s.traction :=
  (clearStale_frame b s).same .traction (by decide)

@[simp] theorem clearStale_air (b : StoreBurst) (s : State) : (clearStale b s).air = s.air :=
  (clearStale_frame b s).same .air (by decide)

@[simp] theorem clearStale_rx (b : StoreBurst) (s : State) : (clearStale b s).rx = s.rx :=
  (clearStale_frame b s).same .receivers (by decide)

@[simp] theorem clearStale_clock (b : StoreBurst) (s : State) : (clearStale b s).clock = s.clock :=
  (clearStale_frame b s).same .clock (by decide)

@[simp] theorem clearStale_lines (b : StoreBurst) (s : State) : (clearStale b s).lines = s.lines :=
  (clearStale_frame b s).same .lines (by decide)

@[simp] theorem clearStale_free (b : StoreBurst) (s : State) : (clearStale b s).free = s.free :=
  (clearStale_frame b s).same .free (by decide)

@[simp] theorem clearStale_pending (b : StoreBurst) (s : State) : (clearStale b s).pending = s.pending :=
  (clearStale_frame b s).same .pending (by decide)

@[simp] theorem clearStale_emitted (b : StoreBurst) (s : State) : (clearStale b s).emitted = s.emitted :=
  (clearStale_frame b s).same .emitted (by decide)

@[simp] theorem clearStale_arb (b : StoreBurst) (s : State) : (clearStale b s).arb = s.arb :=
  (clearStale_frame b s).same .arbiter (by decide)

@[simp] theorem clearStale_anyReset (b : StoreBurst) (s : State) : (clearStale b s).anyReset = s.anyReset :=
  (clearStale_frame b s).anyReset_eq (by decide)

/-! ### trace -/

@[simp] theorem trace_inputs (k : TraceKind) (s : State) : (trace k s).inputs = s.inputs :=
  (trace_frame k s).same .inputs (by decide)

@[simp] theorem trace_params (k : TraceKind) (s : State) : (trace k s).params = s.params :=
  (trace_frame k s).same .params (by decide)

@[simp] theorem trace_path (k : TraceKind) (s : State) : (trace k s).path = s.path :=
  (trace_frame k s).same .path (by decide)

@[simp] theorem trace_demand (k : TraceKind) (s : State) : (trace k s).demand = s.demand :=
  (trace_frame k s).same .demand (by decide)

@[simp] theorem trace_blend (k : TraceKind) (s : State) : (trace k s).blend = s.blend :=
  (trace_frame k s).same .blend (by decide)

@[simp] theorem trace_speed (k : TraceKind) (s : State) : (trace k s).speed = s.speed :=
  (trace_frame k s).same .speed (by decide)

@[simp] theorem trace_slide (k : TraceKind) (s : State) : (trace k s).slide = s.slide :=
  (trace_frame k s).same .slide (by decide)

@[simp] theorem trace_traction (k : TraceKind) (s : State) : (trace k s).traction = s.traction :=
  (trace_frame k s).same .traction (by decide)

@[simp] theorem trace_air (k : TraceKind) (s : State) : (trace k s).air = s.air :=
  (trace_frame k s).same .air (by decide)

@[simp] theorem trace_rx (k : TraceKind) (s : State) : (trace k s).rx = s.rx :=
  (trace_frame k s).same .receivers (by decide)

@[simp] theorem trace_clock (k : TraceKind) (s : State) : (trace k s).clock = s.clock :=
  (trace_frame k s).same .clock (by decide)

@[simp] theorem trace_lines (k : TraceKind) (s : State) : (trace k s).lines = s.lines :=
  (trace_frame k s).same .lines (by decide)

@[simp] theorem trace_free (k : TraceKind) (s : State) : (trace k s).free = s.free :=
  (trace_frame k s).same .free (by decide)

@[simp] theorem trace_pending (k : TraceKind) (s : State) : (trace k s).pending = s.pending :=
  (trace_frame k s).same .pending (by decide)

@[simp] theorem trace_emitted (k : TraceKind) (s : State) : (trace k s).emitted = s.emitted :=
  (trace_frame k s).same .emitted (by decide)

@[simp] theorem trace_anyReset (k : TraceKind) (s : State) : (trace k s).anyReset = s.anyReset :=
  (trace_frame k s).anyReset_eq (by decide)

/-! ### assemble -/

@[simp] theorem assemble_inputs (x : Cause) (s : State) : (assemble x s).inputs = s.inputs :=
  (assemble_frame x s).same .inputs (by decide)

@[simp] theorem assemble_params (x : Cause) (s : State) : (assemble x s).params = s.params :=
  (assemble_frame x s).same .params (by decide)

@[simp] theorem assemble_path (x : Cause) (s : State) : (assemble x s).path = s.path :=
  (assemble_frame x s).same .path (by decide)

@[simp] theorem assemble_demand (x : Cause) (s : State) : (assemble x s).demand = s.demand :=
  (assemble_frame x s).same .demand (by decide)

@[simp] theorem assemble_blend (x : Cause) (s : State) : (assemble x s).blend = s.blend :=
  (assemble_frame x s).same .blend (by decide)

@[simp] theorem assemble_speed (x : Cause) (s : State) : (assemble x s).speed = s.speed :=
  (assemble_frame x s).same .speed (by decide)

@[simp] theorem assemble_slide (x : Cause) (s : State) : (assemble x s).slide = s.slide :=
  (assemble_frame x s).same .slide (by decide)

@[simp] theorem assemble_traction (x : Cause) (s : State) : (assemble x s).traction = s.traction :=
  (assemble_frame x s).same .traction (by decide)

@[simp] theorem assemble_air (x : Cause) (s : State) : (assemble x s).air = s.air :=
  (assemble_frame x s).same .air (by decide)

@[simp] theorem assemble_rx (x : Cause) (s : State) : (assemble x s).rx = s.rx :=
  (assemble_frame x s).same .receivers (by decide)

@[simp] theorem assemble_clock (x : Cause) (s : State) : (assemble x s).clock = s.clock :=
  (assemble_frame x s).same .clock (by decide)

@[simp] theorem assemble_lines (x : Cause) (s : State) : (assemble x s).lines = s.lines :=
  (assemble_frame x s).same .lines (by decide)

@[simp] theorem assemble_free (x : Cause) (s : State) : (assemble x s).free = s.free :=
  (assemble_frame x s).same .free (by decide)

@[simp] theorem assemble_pending (x : Cause) (s : State) : (assemble x s).pending = s.pending :=
  (assemble_frame x s).same .pending (by decide)

@[simp] theorem assemble_emitted (x : Cause) (s : State) : (assemble x s).emitted = s.emitted :=
  (assemble_frame x s).same .emitted (by decide)

@[simp] theorem assemble_anyReset (x : Cause) (s : State) : (assemble x s).anyReset = s.anyReset :=
  (assemble_frame x s).anyReset_eq (by decide)

/-! ### trigger -/

@[simp] theorem trigger_inputs (c : TriggerCause) (s : State) : (trigger c s).inputs = s.inputs :=
  (trigger_frame c s).same .inputs (by decide)

@[simp] theorem trigger_params (c : TriggerCause) (s : State) : (trigger c s).params = s.params :=
  (trigger_frame c s).same .params (by decide)

@[simp] theorem trigger_path (c : TriggerCause) (s : State) : (trigger c s).path = s.path :=
  (trigger_frame c s).same .path (by decide)

@[simp] theorem trigger_demand (c : TriggerCause) (s : State) : (trigger c s).demand = s.demand :=
  (trigger_frame c s).same .demand (by decide)

@[simp] theorem trigger_blend (c : TriggerCause) (s : State) : (trigger c s).blend = s.blend :=
  (trigger_frame c s).same .blend (by decide)

@[simp] theorem trigger_speed (c : TriggerCause) (s : State) : (trigger c s).speed = s.speed :=
  (trigger_frame c s).same .speed (by decide)

@[simp] theorem trigger_slide (c : TriggerCause) (s : State) : (trigger c s).slide = s.slide :=
  (trigger_frame c s).same .slide (by decide)

@[simp] theorem trigger_traction (c : TriggerCause) (s : State) : (trigger c s).traction = s.traction :=
  (trigger_frame c s).same .traction (by decide)

@[simp] theorem trigger_air (c : TriggerCause) (s : State) : (trigger c s).air = s.air :=
  (trigger_frame c s).same .air (by decide)

@[simp] theorem trigger_rx (c : TriggerCause) (s : State) : (trigger c s).rx = s.rx :=
  (trigger_frame c s).same .receivers (by decide)

@[simp] theorem trigger_clock (c : TriggerCause) (s : State) : (trigger c s).clock = s.clock :=
  (trigger_frame c s).same .clock (by decide)

@[simp] theorem trigger_lines (c : TriggerCause) (s : State) : (trigger c s).lines = s.lines :=
  (trigger_frame c s).same .lines (by decide)

@[simp] theorem trigger_free (c : TriggerCause) (s : State) : (trigger c s).free = s.free :=
  (trigger_frame c s).same .free (by decide)

@[simp] theorem trigger_pending (c : TriggerCause) (s : State) : (trigger c s).pending = s.pending :=
  (trigger_frame c s).same .pending (by decide)

@[simp] theorem trigger_emitted (c : TriggerCause) (s : State) : (trigger c s).emitted = s.emitted :=
  (trigger_frame c s).same .emitted (by decide)

@[simp] theorem trigger_anyReset (c : TriggerCause) (s : State) : (trigger c s).anyReset = s.anyReset :=
  (trigger_frame c s).anyReset_eq (by decide)

/-! ### disposePending -/

@[simp] theorem disposePending_inputs (s : State) : (disposePending s).inputs = s.inputs :=
  (disposePending_frame s).same .inputs (by decide)

@[simp] theorem disposePending_params (s : State) : (disposePending s).params = s.params :=
  (disposePending_frame s).same .params (by decide)

@[simp] theorem disposePending_path (s : State) : (disposePending s).path = s.path :=
  (disposePending_frame s).same .path (by decide)

@[simp] theorem disposePending_demand (s : State) : (disposePending s).demand = s.demand :=
  (disposePending_frame s).same .demand (by decide)

@[simp] theorem disposePending_blend (s : State) : (disposePending s).blend = s.blend :=
  (disposePending_frame s).same .blend (by decide)

@[simp] theorem disposePending_speed (s : State) : (disposePending s).speed = s.speed :=
  (disposePending_frame s).same .speed (by decide)

@[simp] theorem disposePending_slide (s : State) : (disposePending s).slide = s.slide :=
  (disposePending_frame s).same .slide (by decide)

@[simp] theorem disposePending_traction (s : State) : (disposePending s).traction = s.traction :=
  (disposePending_frame s).same .traction (by decide)

@[simp] theorem disposePending_air (s : State) : (disposePending s).air = s.air :=
  (disposePending_frame s).same .air (by decide)

@[simp] theorem disposePending_rx (s : State) : (disposePending s).rx = s.rx :=
  (disposePending_frame s).same .receivers (by decide)

@[simp] theorem disposePending_clock (s : State) : (disposePending s).clock = s.clock :=
  (disposePending_frame s).same .clock (by decide)

@[simp] theorem disposePending_lines (s : State) : (disposePending s).lines = s.lines :=
  (disposePending_frame s).same .lines (by decide)

@[simp] theorem disposePending_free (s : State) : (disposePending s).free = s.free :=
  (disposePending_frame s).same .free (by decide)

@[simp] theorem disposePending_pending (s : State) : (disposePending s).pending = s.pending :=
  (disposePending_frame s).same .pending (by decide)

@[simp] theorem disposePending_emitted (s : State) : (disposePending s).emitted = s.emitted :=
  (disposePending_frame s).same .emitted (by decide)

@[simp] theorem disposePending_anyReset (s : State) : (disposePending s).anyReset = s.anyReset :=
  (disposePending_frame s).anyReset_eq (by decide)

/-! ### countHealth -/

@[simp] theorem countHealth_inputs (h : Health) (s : State) : (countHealth h s).inputs = s.inputs :=
  (countHealth_frame h s).same .inputs (by decide)

@[simp] theorem countHealth_params (h : Health) (s : State) : (countHealth h s).params = s.params :=
  (countHealth_frame h s).same .params (by decide)

@[simp] theorem countHealth_path (h : Health) (s : State) : (countHealth h s).path = s.path :=
  (countHealth_frame h s).same .path (by decide)

@[simp] theorem countHealth_demand (h : Health) (s : State) : (countHealth h s).demand = s.demand :=
  (countHealth_frame h s).same .demand (by decide)

@[simp] theorem countHealth_blend (h : Health) (s : State) : (countHealth h s).blend = s.blend :=
  (countHealth_frame h s).same .blend (by decide)

@[simp] theorem countHealth_speed (h : Health) (s : State) : (countHealth h s).speed = s.speed :=
  (countHealth_frame h s).same .speed (by decide)

@[simp] theorem countHealth_slide (h : Health) (s : State) : (countHealth h s).slide = s.slide :=
  (countHealth_frame h s).same .slide (by decide)

@[simp] theorem countHealth_traction (h : Health) (s : State) : (countHealth h s).traction = s.traction :=
  (countHealth_frame h s).same .traction (by decide)

@[simp] theorem countHealth_air (h : Health) (s : State) : (countHealth h s).air = s.air :=
  (countHealth_frame h s).same .air (by decide)

@[simp] theorem countHealth_rx (h : Health) (s : State) : (countHealth h s).rx = s.rx :=
  (countHealth_frame h s).same .receivers (by decide)

@[simp] theorem countHealth_clock (h : Health) (s : State) : (countHealth h s).clock = s.clock :=
  (countHealth_frame h s).same .clock (by decide)

@[simp] theorem countHealth_lines (h : Health) (s : State) : (countHealth h s).lines = s.lines :=
  (countHealth_frame h s).same .lines (by decide)

@[simp] theorem countHealth_free (h : Health) (s : State) : (countHealth h s).free = s.free :=
  (countHealth_frame h s).same .free (by decide)

@[simp] theorem countHealth_pending (h : Health) (s : State) : (countHealth h s).pending = s.pending :=
  (countHealth_frame h s).same .pending (by decide)

@[simp] theorem countHealth_emitted (h : Health) (s : State) : (countHealth h s).emitted = s.emitted :=
  (countHealth_frame h s).same .emitted (by decide)

@[simp] theorem countHealth_anyReset (h : Health) (s : State) : (countHealth h s).anyReset = s.anyReset :=
  (countHealth_frame h s).anyReset_eq (by decide)

/-! ### publish -/

@[simp] theorem publish_inputs (n c : Nat) (r : DirResult) (s : State) : (publish n c r s).inputs = s.inputs :=
  (publish_frame n c r s).same .inputs (by decide)

@[simp] theorem publish_params (n c : Nat) (r : DirResult) (s : State) : (publish n c r s).params = s.params :=
  (publish_frame n c r s).same .params (by decide)

@[simp] theorem publish_path (n c : Nat) (r : DirResult) (s : State) : (publish n c r s).path = s.path :=
  (publish_frame n c r s).same .path (by decide)

@[simp] theorem publish_demand (n c : Nat) (r : DirResult) (s : State) : (publish n c r s).demand = s.demand :=
  (publish_frame n c r s).same .demand (by decide)

@[simp] theorem publish_blend (n c : Nat) (r : DirResult) (s : State) : (publish n c r s).blend = s.blend :=
  (publish_frame n c r s).same .blend (by decide)

@[simp] theorem publish_speed (n c : Nat) (r : DirResult) (s : State) : (publish n c r s).speed = s.speed :=
  (publish_frame n c r s).same .speed (by decide)

@[simp] theorem publish_slide (n c : Nat) (r : DirResult) (s : State) : (publish n c r s).slide = s.slide :=
  (publish_frame n c r s).same .slide (by decide)

@[simp] theorem publish_traction (n c : Nat) (r : DirResult) (s : State) : (publish n c r s).traction = s.traction :=
  (publish_frame n c r s).same .traction (by decide)

@[simp] theorem publish_air (n c : Nat) (r : DirResult) (s : State) : (publish n c r s).air = s.air :=
  (publish_frame n c r s).same .air (by decide)

@[simp] theorem publish_rx (n c : Nat) (r : DirResult) (s : State) : (publish n c r s).rx = s.rx :=
  (publish_frame n c r s).same .receivers (by decide)

@[simp] theorem publish_clock (n c : Nat) (r : DirResult) (s : State) : (publish n c r s).clock = s.clock :=
  (publish_frame n c r s).same .clock (by decide)

@[simp] theorem publish_lines (n c : Nat) (r : DirResult) (s : State) : (publish n c r s).lines = s.lines :=
  (publish_frame n c r s).same .lines (by decide)

@[simp] theorem publish_free (n c : Nat) (r : DirResult) (s : State) : (publish n c r s).free = s.free :=
  (publish_frame n c r s).same .free (by decide)

@[simp] theorem publish_pending (n c : Nat) (r : DirResult) (s : State) : (publish n c r s).pending = s.pending :=
  (publish_frame n c r s).same .pending (by decide)

@[simp] theorem publish_emitted (n c : Nat) (r : DirResult) (s : State) : (publish n c r s).emitted = s.emitted :=
  (publish_frame n c r s).same .emitted (by decide)

@[simp] theorem publish_anyReset (n c : Nat) (r : DirResult) (s : State) : (publish n c r s).anyReset = s.anyReset :=
  (publish_frame n c r s).anyReset_eq (by decide)

/-! ### finish -/

@[simp] theorem finish_inputs (c : DirectiveCode) (r : DirResult) (s : State) : (finish c r s).inputs = s.inputs :=
  (finish_frame c r s).same .inputs (by decide)

@[simp] theorem finish_params (c : DirectiveCode) (r : DirResult) (s : State) : (finish c r s).params = s.params :=
  (finish_frame c r s).same .params (by decide)

@[simp] theorem finish_path (c : DirectiveCode) (r : DirResult) (s : State) : (finish c r s).path = s.path :=
  (finish_frame c r s).same .path (by decide)

@[simp] theorem finish_demand (c : DirectiveCode) (r : DirResult) (s : State) : (finish c r s).demand = s.demand :=
  (finish_frame c r s).same .demand (by decide)

@[simp] theorem finish_blend (c : DirectiveCode) (r : DirResult) (s : State) : (finish c r s).blend = s.blend :=
  (finish_frame c r s).same .blend (by decide)

@[simp] theorem finish_speed (c : DirectiveCode) (r : DirResult) (s : State) : (finish c r s).speed = s.speed :=
  (finish_frame c r s).same .speed (by decide)

@[simp] theorem finish_slide (c : DirectiveCode) (r : DirResult) (s : State) : (finish c r s).slide = s.slide :=
  (finish_frame c r s).same .slide (by decide)

@[simp] theorem finish_traction (c : DirectiveCode) (r : DirResult) (s : State) : (finish c r s).traction = s.traction :=
  (finish_frame c r s).same .traction (by decide)

@[simp] theorem finish_air (c : DirectiveCode) (r : DirResult) (s : State) : (finish c r s).air = s.air :=
  (finish_frame c r s).same .air (by decide)

@[simp] theorem finish_rx (c : DirectiveCode) (r : DirResult) (s : State) : (finish c r s).rx = s.rx :=
  (finish_frame c r s).same .receivers (by decide)

@[simp] theorem finish_clock (c : DirectiveCode) (r : DirResult) (s : State) : (finish c r s).clock = s.clock :=
  (finish_frame c r s).same .clock (by decide)

@[simp] theorem finish_lines (c : DirectiveCode) (r : DirResult) (s : State) : (finish c r s).lines = s.lines :=
  (finish_frame c r s).same .lines (by decide)

@[simp] theorem finish_free (c : DirectiveCode) (r : DirResult) (s : State) : (finish c r s).free = s.free :=
  (finish_frame c r s).same .free (by decide)

@[simp] theorem finish_pending (c : DirectiveCode) (r : DirResult) (s : State) : (finish c r s).pending = s.pending :=
  (finish_frame c r s).same .pending (by decide)

@[simp] theorem finish_emitted (c : DirectiveCode) (r : DirResult) (s : State) : (finish c r s).emitted = s.emitted :=
  (finish_frame c r s).same .emitted (by decide)

@[simp] theorem finish_anyReset (c : DirectiveCode) (r : DirResult) (s : State) : (finish c r s).anyReset = s.anyReset :=
  (finish_frame c r s).anyReset_eq (by decide)

/-! ### inProgress -/

@[simp] theorem inProgress_inputs (s : State) : (inProgress s).inputs = s.inputs :=
  (inProgress_frame s).same .inputs (by decide)

@[simp] theorem inProgress_params (s : State) : (inProgress s).params = s.params :=
  (inProgress_frame s).same .params (by decide)

@[simp] theorem inProgress_path (s : State) : (inProgress s).path = s.path :=
  (inProgress_frame s).same .path (by decide)

@[simp] theorem inProgress_demand (s : State) : (inProgress s).demand = s.demand :=
  (inProgress_frame s).same .demand (by decide)

@[simp] theorem inProgress_blend (s : State) : (inProgress s).blend = s.blend :=
  (inProgress_frame s).same .blend (by decide)

@[simp] theorem inProgress_speed (s : State) : (inProgress s).speed = s.speed :=
  (inProgress_frame s).same .speed (by decide)

@[simp] theorem inProgress_slide (s : State) : (inProgress s).slide = s.slide :=
  (inProgress_frame s).same .slide (by decide)

@[simp] theorem inProgress_traction (s : State) : (inProgress s).traction = s.traction :=
  (inProgress_frame s).same .traction (by decide)

@[simp] theorem inProgress_air (s : State) : (inProgress s).air = s.air := (inProgress_frame s).same .air (by decide)

@[simp] theorem inProgress_rx (s : State) : (inProgress s).rx = s.rx :=
  (inProgress_frame s).same .receivers (by decide)

@[simp] theorem inProgress_clock (s : State) : (inProgress s).clock = s.clock :=
  (inProgress_frame s).same .clock (by decide)

@[simp] theorem inProgress_lines (s : State) : (inProgress s).lines = s.lines :=
  (inProgress_frame s).same .lines (by decide)

@[simp] theorem inProgress_free (s : State) : (inProgress s).free = s.free :=
  (inProgress_frame s).same .free (by decide)

@[simp] theorem inProgress_pending (s : State) : (inProgress s).pending = s.pending :=
  (inProgress_frame s).same .pending (by decide)

@[simp] theorem inProgress_emitted (s : State) : (inProgress s).emitted = s.emitted :=
  (inProgress_frame s).same .emitted (by decide)

@[simp] theorem inProgress_arb (s : State) : (inProgress s).arb = s.arb :=
  (inProgress_frame s).same .arbiter (by decide)

@[simp] theorem inProgress_anyReset (s : State) : (inProgress s).anyReset = s.anyReset :=
  (inProgress_frame s).anyReset_eq (by decide)

/-! ### slideReports -/

@[simp] theorem slideReports_inputs (o n : SlideUnit) (s : State) : (slideReports o n s).inputs = s.inputs :=
  (slideReports_frame o n s).same .inputs (by decide)

@[simp] theorem slideReports_params (o n : SlideUnit) (s : State) : (slideReports o n s).params = s.params :=
  (slideReports_frame o n s).same .params (by decide)

@[simp] theorem slideReports_path (o n : SlideUnit) (s : State) : (slideReports o n s).path = s.path :=
  (slideReports_frame o n s).same .path (by decide)

@[simp] theorem slideReports_demand (o n : SlideUnit) (s : State) : (slideReports o n s).demand = s.demand :=
  (slideReports_frame o n s).same .demand (by decide)

@[simp] theorem slideReports_blend (o n : SlideUnit) (s : State) : (slideReports o n s).blend = s.blend :=
  (slideReports_frame o n s).same .blend (by decide)

@[simp] theorem slideReports_speed (o n : SlideUnit) (s : State) : (slideReports o n s).speed = s.speed :=
  (slideReports_frame o n s).same .speed (by decide)

@[simp] theorem slideReports_slide (o n : SlideUnit) (s : State) : (slideReports o n s).slide = s.slide :=
  (slideReports_frame o n s).same .slide (by decide)

@[simp] theorem slideReports_traction (o n : SlideUnit) (s : State) : (slideReports o n s).traction = s.traction :=
  (slideReports_frame o n s).same .traction (by decide)

@[simp] theorem slideReports_air (o n : SlideUnit) (s : State) : (slideReports o n s).air = s.air :=
  (slideReports_frame o n s).same .air (by decide)

@[simp] theorem slideReports_rx (o n : SlideUnit) (s : State) : (slideReports o n s).rx = s.rx :=
  (slideReports_frame o n s).same .receivers (by decide)

@[simp] theorem slideReports_clock (o n : SlideUnit) (s : State) : (slideReports o n s).clock = s.clock :=
  (slideReports_frame o n s).same .clock (by decide)

@[simp] theorem slideReports_lines (o n : SlideUnit) (s : State) : (slideReports o n s).lines = s.lines :=
  (slideReports_frame o n s).same .lines (by decide)

@[simp] theorem slideReports_free (o n : SlideUnit) (s : State) : (slideReports o n s).free = s.free :=
  (slideReports_frame o n s).same .free (by decide)

@[simp] theorem slideReports_pending (o n : SlideUnit) (s : State) : (slideReports o n s).pending = s.pending :=
  (slideReports_frame o n s).same .pending (by decide)

@[simp] theorem slideReports_emitted (o n : SlideUnit) (s : State) : (slideReports o n s).emitted = s.emitted :=
  (slideReports_frame o n s).same .emitted (by decide)

@[simp] theorem slideReports_anyReset (o n : SlideUnit) (s : State) : (slideReports o n s).anyReset = s.anyReset :=
  (slideReports_frame o n s).anyReset_eq (by decide)

/-! ### slideRun -/

@[simp] theorem slideRun_inputs (e : SlideEvent) (s : State) : (slideRun e s).inputs = s.inputs :=
  (slideRun_frame e s).same .inputs (by decide)

@[simp] theorem slideRun_params (e : SlideEvent) (s : State) : (slideRun e s).params = s.params :=
  (slideRun_frame e s).same .params (by decide)

@[simp] theorem slideRun_path (e : SlideEvent) (s : State) : (slideRun e s).path = s.path :=
  (slideRun_frame e s).same .path (by decide)

@[simp] theorem slideRun_demand (e : SlideEvent) (s : State) : (slideRun e s).demand = s.demand :=
  (slideRun_frame e s).same .demand (by decide)

@[simp] theorem slideRun_blend (e : SlideEvent) (s : State) : (slideRun e s).blend = s.blend :=
  (slideRun_frame e s).same .blend (by decide)

@[simp] theorem slideRun_speed (e : SlideEvent) (s : State) : (slideRun e s).speed = s.speed :=
  (slideRun_frame e s).same .speed (by decide)

@[simp] theorem slideRun_traction (e : SlideEvent) (s : State) : (slideRun e s).traction = s.traction :=
  (slideRun_frame e s).same .traction (by decide)

@[simp] theorem slideRun_air (e : SlideEvent) (s : State) : (slideRun e s).air = s.air :=
  (slideRun_frame e s).same .air (by decide)

@[simp] theorem slideRun_rx (e : SlideEvent) (s : State) : (slideRun e s).rx = s.rx :=
  (slideRun_frame e s).same .receivers (by decide)

@[simp] theorem slideRun_clock (e : SlideEvent) (s : State) : (slideRun e s).clock = s.clock :=
  (slideRun_frame e s).same .clock (by decide)

@[simp] theorem slideRun_lines (e : SlideEvent) (s : State) : (slideRun e s).lines = s.lines :=
  (slideRun_frame e s).same .lines (by decide)

@[simp] theorem slideRun_free (e : SlideEvent) (s : State) : (slideRun e s).free = s.free :=
  (slideRun_frame e s).same .free (by decide)

@[simp] theorem slideRun_pending (e : SlideEvent) (s : State) : (slideRun e s).pending = s.pending :=
  (slideRun_frame e s).same .pending (by decide)

@[simp] theorem slideRun_emitted (e : SlideEvent) (s : State) : (slideRun e s).emitted = s.emitted :=
  (slideRun_frame e s).same .emitted (by decide)

@[simp] theorem slideRun_anyReset (e : SlideEvent) (s : State) : (slideRun e s).anyReset = s.anyReset :=
  (slideRun_frame e s).anyReset_eq (by decide)

/-! ### enterTraction -/

@[simp] theorem enterTraction_inputs (x : TractionState) (s : State) : (enterTraction x s).inputs = s.inputs :=
  (enterTraction_frame x s).same .inputs (by decide)

@[simp] theorem enterTraction_params (x : TractionState) (s : State) : (enterTraction x s).params = s.params :=
  (enterTraction_frame x s).same .params (by decide)

@[simp] theorem enterTraction_path (x : TractionState) (s : State) : (enterTraction x s).path = s.path :=
  (enterTraction_frame x s).same .path (by decide)

@[simp] theorem enterTraction_demand (x : TractionState) (s : State) : (enterTraction x s).demand = s.demand :=
  (enterTraction_frame x s).same .demand (by decide)

@[simp] theorem enterTraction_blend (x : TractionState) (s : State) : (enterTraction x s).blend = s.blend :=
  (enterTraction_frame x s).same .blend (by decide)

@[simp] theorem enterTraction_speed (x : TractionState) (s : State) : (enterTraction x s).speed = s.speed :=
  (enterTraction_frame x s).same .speed (by decide)

@[simp] theorem enterTraction_slide (x : TractionState) (s : State) : (enterTraction x s).slide = s.slide :=
  (enterTraction_frame x s).same .slide (by decide)

@[simp] theorem enterTraction_air (x : TractionState) (s : State) : (enterTraction x s).air = s.air :=
  (enterTraction_frame x s).same .air (by decide)

@[simp] theorem enterTraction_rx (x : TractionState) (s : State) : (enterTraction x s).rx = s.rx :=
  (enterTraction_frame x s).same .receivers (by decide)

@[simp] theorem enterTraction_clock (x : TractionState) (s : State) : (enterTraction x s).clock = s.clock :=
  (enterTraction_frame x s).same .clock (by decide)

@[simp] theorem enterTraction_lines (x : TractionState) (s : State) : (enterTraction x s).lines = s.lines :=
  (enterTraction_frame x s).same .lines (by decide)

@[simp] theorem enterTraction_free (x : TractionState) (s : State) : (enterTraction x s).free = s.free :=
  (enterTraction_frame x s).same .free (by decide)

@[simp] theorem enterTraction_pending (x : TractionState) (s : State) : (enterTraction x s).pending = s.pending :=
  (enterTraction_frame x s).same .pending (by decide)

@[simp] theorem enterTraction_anyReset (x : TractionState) (s : State) : (enterTraction x s).anyReset = s.anyReset :=
  (enterTraction_frame x s).anyReset_eq (by decide)

/-! ### sendTraction -/

@[simp] theorem sendTraction_inputs (s : State) : (sendTraction s).inputs = s.inputs :=
  (sendTraction_frame s).same .inputs (by decide)

@[simp] theorem sendTraction_params (s : State) : (sendTraction s).params = s.params :=
  (sendTraction_frame s).same .params (by decide)

@[simp] theorem sendTraction_path (s : State) : (sendTraction s).path = s.path :=
  (sendTraction_frame s).same .path (by decide)

@[simp] theorem sendTraction_demand (s : State) : (sendTraction s).demand = s.demand :=
  (sendTraction_frame s).same .demand (by decide)

@[simp] theorem sendTraction_blend (s : State) : (sendTraction s).blend = s.blend :=
  (sendTraction_frame s).same .blend (by decide)

@[simp] theorem sendTraction_speed (s : State) : (sendTraction s).speed = s.speed :=
  (sendTraction_frame s).same .speed (by decide)

@[simp] theorem sendTraction_slide (s : State) : (sendTraction s).slide = s.slide :=
  (sendTraction_frame s).same .slide (by decide)

@[simp] theorem sendTraction_air (s : State) : (sendTraction s).air = s.air :=
  (sendTraction_frame s).same .air (by decide)

@[simp] theorem sendTraction_rx (s : State) : (sendTraction s).rx = s.rx :=
  (sendTraction_frame s).same .receivers (by decide)

@[simp] theorem sendTraction_clock (s : State) : (sendTraction s).clock = s.clock :=
  (sendTraction_frame s).same .clock (by decide)

@[simp] theorem sendTraction_lines (s : State) : (sendTraction s).lines = s.lines :=
  (sendTraction_frame s).same .lines (by decide)

@[simp] theorem sendTraction_free (s : State) : (sendTraction s).free = s.free :=
  (sendTraction_frame s).same .free (by decide)

@[simp] theorem sendTraction_pending (s : State) : (sendTraction s).pending = s.pending :=
  (sendTraction_frame s).same .pending (by decide)

@[simp] theorem sendTraction_anyReset (s : State) : (sendTraction s).anyReset = s.anyReset :=
  (sendTraction_frame s).anyReset_eq (by decide)

/-! ### sendAir -/

@[simp] theorem sendAir_inputs (s : State) : (sendAir s).inputs = s.inputs :=
  (sendAir_frame s).same .inputs (by decide)

@[simp] theorem sendAir_params (s : State) : (sendAir s).params = s.params :=
  (sendAir_frame s).same .params (by decide)

@[simp] theorem sendAir_path (s : State) : (sendAir s).path = s.path := (sendAir_frame s).same .path (by decide)

@[simp] theorem sendAir_demand (s : State) : (sendAir s).demand = s.demand :=
  (sendAir_frame s).same .demand (by decide)

@[simp] theorem sendAir_blend (s : State) : (sendAir s).blend = s.blend := (sendAir_frame s).same .blend (by decide)

@[simp] theorem sendAir_speed (s : State) : (sendAir s).speed = s.speed := (sendAir_frame s).same .speed (by decide)

@[simp] theorem sendAir_slide (s : State) : (sendAir s).slide = s.slide := (sendAir_frame s).same .slide (by decide)

@[simp] theorem sendAir_traction (s : State) : (sendAir s).traction = s.traction :=
  (sendAir_frame s).same .traction (by decide)

@[simp] theorem sendAir_rx (s : State) : (sendAir s).rx = s.rx := (sendAir_frame s).same .receivers (by decide)

@[simp] theorem sendAir_clock (s : State) : (sendAir s).clock = s.clock := (sendAir_frame s).same .clock (by decide)

@[simp] theorem sendAir_lines (s : State) : (sendAir s).lines = s.lines := (sendAir_frame s).same .lines (by decide)

@[simp] theorem sendAir_free (s : State) : (sendAir s).free = s.free := (sendAir_frame s).same .free (by decide)

@[simp] theorem sendAir_pending (s : State) : (sendAir s).pending = s.pending :=
  (sendAir_frame s).same .pending (by decide)

@[simp] theorem sendAir_anyReset (s : State) : (sendAir s).anyReset = s.anyReset :=
  (sendAir_frame s).anyReset_eq (by decide)

/-! ### endTest -/

@[simp] theorem endTest_inputs (r : TestResult) (s : State) : (endTest r s).inputs = s.inputs :=
  (endTest_frame r s).same .inputs (by decide)

@[simp] theorem endTest_params (r : TestResult) (s : State) : (endTest r s).params = s.params :=
  (endTest_frame r s).same .params (by decide)

@[simp] theorem endTest_path (r : TestResult) (s : State) : (endTest r s).path = s.path :=
  (endTest_frame r s).same .path (by decide)

@[simp] theorem endTest_demand (r : TestResult) (s : State) : (endTest r s).demand = s.demand :=
  (endTest_frame r s).same .demand (by decide)

@[simp] theorem endTest_blend (r : TestResult) (s : State) : (endTest r s).blend = s.blend :=
  (endTest_frame r s).same .blend (by decide)

@[simp] theorem endTest_speed (r : TestResult) (s : State) : (endTest r s).speed = s.speed :=
  (endTest_frame r s).same .speed (by decide)

@[simp] theorem endTest_slide (r : TestResult) (s : State) : (endTest r s).slide = s.slide :=
  (endTest_frame r s).same .slide (by decide)

@[simp] theorem endTest_traction (r : TestResult) (s : State) : (endTest r s).traction = s.traction :=
  (endTest_frame r s).same .traction (by decide)

@[simp] theorem endTest_rx (r : TestResult) (s : State) : (endTest r s).rx = s.rx :=
  (endTest_frame r s).same .receivers (by decide)

@[simp] theorem endTest_clock (r : TestResult) (s : State) : (endTest r s).clock = s.clock :=
  (endTest_frame r s).same .clock (by decide)

@[simp] theorem endTest_lines (r : TestResult) (s : State) : (endTest r s).lines = s.lines :=
  (endTest_frame r s).same .lines (by decide)

@[simp] theorem endTest_free (r : TestResult) (s : State) : (endTest r s).free = s.free :=
  (endTest_frame r s).same .free (by decide)

@[simp] theorem endTest_pending (r : TestResult) (s : State) : (endTest r s).pending = s.pending :=
  (endTest_frame r s).same .pending (by decide)

@[simp] theorem endTest_anyReset (r : TestResult) (s : State) : (endTest r s).anyReset = s.anyReset :=
  (endTest_frame r s).anyReset_eq (by decide)

/-! ### autoResume -/

@[simp] theorem autoResume_inputs (b : Bool) (s : State) : (autoResume b s).inputs = s.inputs :=
  (autoResume_frame b s).same .inputs (by decide)

@[simp] theorem autoResume_params (b : Bool) (s : State) : (autoResume b s).params = s.params :=
  (autoResume_frame b s).same .params (by decide)

@[simp] theorem autoResume_path (b : Bool) (s : State) : (autoResume b s).path = s.path :=
  (autoResume_frame b s).same .path (by decide)

@[simp] theorem autoResume_demand (b : Bool) (s : State) : (autoResume b s).demand = s.demand :=
  (autoResume_frame b s).same .demand (by decide)

@[simp] theorem autoResume_blend (b : Bool) (s : State) : (autoResume b s).blend = s.blend :=
  (autoResume_frame b s).same .blend (by decide)

@[simp] theorem autoResume_speed (b : Bool) (s : State) : (autoResume b s).speed = s.speed :=
  (autoResume_frame b s).same .speed (by decide)

@[simp] theorem autoResume_slide (b : Bool) (s : State) : (autoResume b s).slide = s.slide :=
  (autoResume_frame b s).same .slide (by decide)

@[simp] theorem autoResume_air (b : Bool) (s : State) : (autoResume b s).air = s.air :=
  (autoResume_frame b s).same .air (by decide)

@[simp] theorem autoResume_rx (b : Bool) (s : State) : (autoResume b s).rx = s.rx :=
  (autoResume_frame b s).same .receivers (by decide)

@[simp] theorem autoResume_clock (b : Bool) (s : State) : (autoResume b s).clock = s.clock :=
  (autoResume_frame b s).same .clock (by decide)

@[simp] theorem autoResume_lines (b : Bool) (s : State) : (autoResume b s).lines = s.lines :=
  (autoResume_frame b s).same .lines (by decide)

@[simp] theorem autoResume_free (b : Bool) (s : State) : (autoResume b s).free = s.free :=
  (autoResume_frame b s).same .free (by decide)

@[simp] theorem autoResume_pending (b : Bool) (s : State) : (autoResume b s).pending = s.pending :=
  (autoResume_frame b s).same .pending (by decide)

@[simp] theorem autoResume_anyReset (b : Bool) (s : State) : (autoResume b s).anyReset = s.anyReset :=
  (autoResume_frame b s).anyReset_eq (by decide)

/-! ### blendEvent -/

@[simp] theorem blendEvent_inputs (g : Bool) (s : State) : (blendEvent g s).inputs = s.inputs :=
  (blendEvent_frame g s).same .inputs (by decide)

@[simp] theorem blendEvent_params (g : Bool) (s : State) : (blendEvent g s).params = s.params :=
  (blendEvent_frame g s).same .params (by decide)

@[simp] theorem blendEvent_path (g : Bool) (s : State) : (blendEvent g s).path = s.path :=
  (blendEvent_frame g s).same .path (by decide)

@[simp] theorem blendEvent_demand (g : Bool) (s : State) : (blendEvent g s).demand = s.demand :=
  (blendEvent_frame g s).same .demand (by decide)

@[simp] theorem blendEvent_speed (g : Bool) (s : State) : (blendEvent g s).speed = s.speed :=
  (blendEvent_frame g s).same .speed (by decide)

@[simp] theorem blendEvent_rx (g : Bool) (s : State) : (blendEvent g s).rx = s.rx :=
  (blendEvent_frame g s).same .receivers (by decide)

@[simp] theorem blendEvent_clock (g : Bool) (s : State) : (blendEvent g s).clock = s.clock :=
  (blendEvent_frame g s).same .clock (by decide)

@[simp] theorem blendEvent_lines (g : Bool) (s : State) : (blendEvent g s).lines = s.lines :=
  (blendEvent_frame g s).same .lines (by decide)

@[simp] theorem blendEvent_free (g : Bool) (s : State) : (blendEvent g s).free = s.free :=
  (blendEvent_frame g s).same .free (by decide)

@[simp] theorem blendEvent_pending (g : Bool) (s : State) : (blendEvent g s).pending = s.pending :=
  (blendEvent_frame g s).same .pending (by decide)

@[simp] theorem blendEvent_anyReset (g : Bool) (s : State) : (blendEvent g s).anyReset = s.anyReset :=
  (blendEvent_frame g s).anyReset_eq (by decide)

/-! ### handDemand -/

@[simp] theorem handDemand_inputs (m : HandMark) (s : State) : (handDemand m s).inputs = s.inputs :=
  (handDemand_frame m s).same .inputs (by decide)

@[simp] theorem handDemand_params (m : HandMark) (s : State) : (handDemand m s).params = s.params :=
  (handDemand_frame m s).same .params (by decide)

@[simp] theorem handDemand_path (m : HandMark) (s : State) : (handDemand m s).path = s.path :=
  (handDemand_frame m s).same .path (by decide)

@[simp] theorem handDemand_demand (m : HandMark) (s : State) : (handDemand m s).demand = s.demand :=
  (handDemand_frame m s).same .demand (by decide)

@[simp] theorem handDemand_speed (m : HandMark) (s : State) : (handDemand m s).speed = s.speed :=
  (handDemand_frame m s).same .speed (by decide)

@[simp] theorem handDemand_rx (m : HandMark) (s : State) : (handDemand m s).rx = s.rx :=
  (handDemand_frame m s).same .receivers (by decide)

@[simp] theorem handDemand_clock (m : HandMark) (s : State) : (handDemand m s).clock = s.clock :=
  (handDemand_frame m s).same .clock (by decide)

@[simp] theorem handDemand_lines (m : HandMark) (s : State) : (handDemand m s).lines = s.lines :=
  (handDemand_frame m s).same .lines (by decide)

@[simp] theorem handDemand_free (m : HandMark) (s : State) : (handDemand m s).free = s.free :=
  (handDemand_frame m s).same .free (by decide)

@[simp] theorem handDemand_pending (m : HandMark) (s : State) : (handDemand m s).pending = s.pending :=
  (handDemand_frame m s).same .pending (by decide)

@[simp] theorem handDemand_anyReset (m : HandMark) (s : State) : (handDemand m s).anyReset = s.anyReset :=
  (handDemand_frame m s).anyReset_eq (by decide)

end Sys2Proof.Machine
end

