-- ==== Sys2Proof/Laws/Layout.lean ====
section
/-! SUPPORT. Bytes laid out in order: lengths, slices of what is appended and padded, and fields read off a run of bytes
written as them, so that no proof about a layout unfolds the writing. -/

namespace Sys2Proof.Machine

@[simp] theorem leBytes_length (n v : Nat) : (leBytes n v).length = n := by
  induction n generalizing v with
  | zero => rfl
  | succ n ih => simp [leBytes, ih]

@[simp] theorem byte1_length (v : Nat) : (byte1 v).length = 1 := leBytes_length 1 v

@[simp] theorem byte2_length (v : Nat) : (byte2 v).length = 2 := leBytes_length 2 v

@[simp] theorem byte4_length (v : Nat) : (byte4 v).length = 4 := leBytes_length 4 v

@[simp] theorem zeros_length (n : Nat) : (zeros n).length = n := List.length_replicate

@[simp] theorem padTo_length (n : Nat) (bs : List Byte) : (padTo n bs).length = n := by
  simp [padTo]; omega

@[simp] theorem boolByte_length (b : Bool) : (boolByte b).length = 1 := rfl

/-- A truth value is its code in one byte. -/
theorem boolByte_eq (b : Bool) : boolByte b = leBytes 1 b.toNat := by cases b <;> rfl

/-- A field of all ones. -/
theorem leBytes_ones (n : Nat) : leBytes n (256 ^ n - 1) = List.replicate n 0xFF := by
  induction n with
  | zero => rfl
  | succ n ih =>
    have p : 0 < 256 ^ n := Nat.pow_pos (by decide)
    have q : 256 ^ (n + 1) - 1 = 256 * (256 ^ n - 1) + 255 := by omega
    have d : (256 ^ (n + 1) - 1) / 256 = 256 ^ n - 1 := by omega
    have b : BitVec.ofNat 8 (256 ^ (n + 1) - 1) = (0xFF : Byte) := by
      apply BitVec.eq_of_toNat_eq
      simp only [BitVec.toNat_ofNat]
      show (256 ^ (n + 1) - 1) % 256 = 255
      omega
    rw [leBytes, d, ih, b, List.replicate_succ]

/-- A quantity that may be NONE is written as the number that shows it (R207). -/
theorem optBytes_eq (n : Nat) (v : Option Nat) : optBytes n v = leBytes n (shown n v) := by
  cases v with
  | none => exact (leBytes_ones n).symm
  | some v => rfl

/-- An axle's speed is written as the number that shows it (R207). -/
theorem AxleSpeed.bytes_eq (v : AxleSpeed) : v.bytes = leBytes 2 v.shown := by cases v <;> rfl

@[simp] theorem AxleSpeed.bytes_length (v : AxleSpeed) : v.bytes.length = 2 := by rw [AxleSpeed.bytes_eq, leBytes_length]

/-- A cause's detail has six bytes, in fields too. -/
theorem detailFields_sum (c : TriggerCause) : (c.detailFields.map Prod.fst).sum = 6 := by cases c <;> rfl

/-- A trace entry's kind and contents fill its bytes 0 to 11 (section 12.9). -/
theorem fields_sum (k : TraceKind) : (k.fields.map Prod.fst).sum = 12 := by
  cases k with
  | channel l e => cases e <;> rfl
  | trigger c cls armed => simp [TraceKind.fields, detailFields_sum]
  | _ => rfl

@[simp] theorem optBytes_length (n : Nat) (v : Option Nat) : (optBytes n v).length = n := by
  rw [optBytes_eq, leBytes_length]

/-- A slice that begins after a prefix is the slice of the rest. -/
theorem slice_append_right {off n k : Nat} {as bs : List Byte} (h : as.length + k = off) :
    slice off n (as ++ bs) = slice k n bs := by
  subst h
  simp [slice, List.drop_append, List.drop_eq_nil_of_le]

/-- A slice within a prefix is the prefix's. -/
theorem slice_append_left {off n : Nat} {as bs : List Byte} (h : off + n ≤ as.length) :
    slice off n (as ++ bs) = slice off n as := by
  simp [slice, List.drop_append, List.take_append, show off - as.length = 0 by omega,
    show n - (as.length - off) = 0 by omega]

/-- A slice within what a run is padded to is the run's. -/
theorem slice_padTo {off n m : Nat} {bs : List Byte} (h : off + n ≤ bs.length) (k : off + n ≤ m) :
    slice off n (padTo m bs) = slice off n bs := by
  simp only [slice, padTo, List.drop_take, List.take_take]
  rw [show min n (m - off) = n by omega, List.drop_append_of_le_length (by omega),
    List.take_append_of_le_length (by simp; omega)]

/-- The bytes of fields, each of its size. -/
theorem fields_length (fields : List (Nat × Nat)) :
    (fields.flatMap fun f => leBytes f.1 f.2).length = (fields.map Prod.fst).sum := by
  induction fields with
  | nil => rfl
  | cons f fs ih => simp [List.flatMap_cons, ih]

/-- Bytes that begin with the fields hold them at 0. -/
theorem holdsFields_append {fields : List (Nat × Nat)} {bs : List Byte} :
    HoldsFields 0 fields ((fields.flatMap fun f => leBytes f.1 f.2) ++ bs) := by
  unfold HoldsFields
  rw [slice_append_left (by rw [fields_length]; omega), slice, List.drop_zero, ← fields_length, List.take_length]

/-- Fields after a prefix are those of the rest. -/
theorem holdsFields_after {off k : Nat} {fields : List (Nat × Nat)} {as bs : List Byte} (h : as.length + k = off)
    (w : HoldsFields k fields bs) : HoldsFields off fields (as ++ bs) := by
  unfold HoldsFields at *
  rw [slice_append_right h, w]

/-- Fields within a prefix are held whatever follows. -/
theorem holdsFields_before {off : Nat} {fields : List (Nat × Nat)} {as bs : List Byte}
    (h : off + (fields.map Prod.fst).sum ≤ as.length) (w : HoldsFields off fields as) :
    HoldsFields off fields (as ++ bs) := by
  unfold HoldsFields at *
  rw [slice_append_left h, w]

/-- Fields of a run are held by the padded run. -/
theorem holdsFields_padTo {off m : Nat} {fields : List (Nat × Nat)} {bs : List Byte}
    (h : off + (fields.map Prod.fst).sum ≤ bs.length) (k : off + (fields.map Prod.fst).sum ≤ m)
    (w : HoldsFields off fields bs) : HoldsFields off fields (padTo m bs) := by
  unfold HoldsFields at *
  rw [slice_padTo h k, w]

end Sys2Proof.Machine
end

