-- ==== Sys2Proof/Laws/PerInstr.lean ====
section
/-! SUPPORT. What a well-formed command carries, for each command. -/


namespace Sys2Proof.Laws.WellShaped

open Sys2Proof.Machine

/-- The read data that the part takes with a command: none beside an ERROR answer to a loader's read (R25). -/
def taken : Instr → List BeatData
  | .passResponse _ data | .storeBurstResponse data | .scanHeaderRead data | .scanEntryRead data => data
  | .anchorReadResponse r data | .configBurstResponse r data _ => if r = .ok then data else []
  | _ => []

/-- The bytes that arrive on a link with a command. -/
def arriving : Instr → Option (List Byte)
  | .speedSample bytes | .frameDiscarded _ bytes | .dynReport bytes | .airReport bytes | .releaseAck bytes => some bytes
  | _ => none

/-- The transaction that a command offers. -/
def offered : Instr → Option Transaction
  | .processorTransaction t => some t
  | _ => none

/-- A well-formed command brings at most the 8 beats of a burst (R2), at least one byte where it ends a frame (R115),
and a transaction of 1 to 8 beats at an address aligned to 8 bytes (R1). -/
def Statement (i : Instr) : Prop :=
  i.wellFormed = true →
    (taken i).length ≤ 8 ∧ (∀ bytes, arriving i = some bytes → bytes ≠ []) ∧
      ∀ t, offered i = some t → 1 ≤ txnLength t ∧ txnLength t ≤ 8 ∧ (txnAddr t).toNat % 8 = 0

/-- A command that carries nothing is well-shaped. -/
theorem of_plain {i : Instr} (d : taken i = []) (b : arriving i = none) (t : offered i = none) : Statement i := by
  intro _
  rw [d, b, t]
  exact ⟨Nat.zero_le 8, nofun, nofun⟩

/-- A command that carries read data alone. -/
theorem of_data {i : Instr} (d : i.wellFormed = true → (taken i).length ≤ 8) (b : arriving i = none)
    (t : offered i = none) : Statement i := by
  intro h
  rw [b, t]
  exact ⟨d h, nofun, nofun⟩

/-- A command that carries bytes alone. -/
theorem of_bytes {i : Instr} {bytes : List Byte} (w : i.wellFormed = frameShape bytes) (d : taken i = [])
    (b : arriving i = some bytes) (t : offered i = none) : Statement i := by
  intro h
  rw [d, b, t]
  refine ⟨Nat.zero_le 8, fun _ e => ?_, nofun⟩
  cases e
  rw [w] at h
  rintro rfl
  exact absurd h (by decide)

theorem processorTransaction (t : Transaction) : Statement (.processorTransaction t) := by
  intro h
  refine ⟨Nat.zero_le 8, nofun, fun u e => ?_⟩
  cases e
  cases t with
  | read addr len =>
    simp only [Instr.wellFormed, Transaction.wellFormed, Bool.and_eq_true, decide_eq_true_eq, beq_iff_eq] at h
    exact ⟨h.2.1, h.2.2, h.1⟩
  | write addr beats =>
    simp only [Instr.wellFormed, Transaction.wellFormed, Bool.and_eq_true, decide_eq_true_eq, beq_iff_eq] at h
    exact ⟨h.2.1, h.2.2, h.1⟩

theorem servedRead : Statement .servedRead := of_plain rfl rfl rfl

theorem guardWrite : Statement .guardWrite := of_plain rfl rfl rfl

theorem servedWrite : Statement .servedWrite := of_plain rfl rfl rfl

theorem straddle : Statement .straddle := of_plain rfl rfl rfl

theorem passResponse (r : Response) (data : List BeatData) : Statement (.passResponse r data) := by
  refine of_data (fun h => ?_) rfl rfl
  simp [Instr.wellFormed] at h
  simp only [taken]
  omega

theorem reloadRequest : Statement .reloadRequest := of_plain rfl rfl rfl

theorem anchorReadResponse (r : Response) (data : List BeatData) : Statement (.anchorReadResponse r data) := by
  refine of_data (fun h => ?_) rfl rfl
  cases r with
  | ok =>
    simp only [Instr.wellFormed, Bool.or_eq_true, beq_iff_eq] at h
    simp only [taken, if_pos]
    rcases h with h | h
    · cases h
    · omega
  | error => exact Nat.zero_le 8

theorem configBurstResponse (r : Response) (data : List BeatData) (o : TakenFirst) :
    Statement (.configBurstResponse r data o) := by
  refine of_data (fun h => ?_) rfl rfl
  cases r with
  | ok =>
    simp only [Instr.wellFormed, Bool.or_eq_true, beq_iff_eq] at h
    simp only [taken, if_pos]
    rcases h with h | h
    · cases h
    · omega
  | error => exact Nat.zero_le 8

theorem configInstall (linesFirst : Bool) : Statement (.configInstall linesFirst) := of_plain rfl rfl rfl

theorem resultWordResponse (r : Response) : Statement (.resultWordResponse r) := of_plain rfl rfl rfl

theorem storeBurstResponse (data : List BeatData) : Statement (.storeBurstResponse data) := by
  refine of_data (fun h => ?_) rfl rfl
  simp [Instr.wellFormed] at h
  simp only [taken]
  omega

theorem openSequenceEnd : Statement .openSequenceEnd := of_plain rfl rfl rfl

theorem closeEntryWritten : Statement .closeEntryWritten := of_plain rfl rfl rfl

theorem closeSequenceEnd : Statement .closeSequenceEnd := of_plain rfl rfl rfl

theorem headerSequenceDone : Statement .headerSequenceDone := of_plain rfl rfl rfl

theorem entrySequenceDone : Statement .entrySequenceDone := of_plain rfl rfl rfl

theorem eraseSequenceEnd : Statement .eraseSequenceEnd := of_plain rfl rfl rfl

theorem scanHeaderRead (data : List BeatData) : Statement (.scanHeaderRead data) := by
  refine of_data (fun h => ?_) rfl rfl
  simp [Instr.wellFormed] at h
  simp only [taken]
  omega

theorem scanEntryRead (data : List BeatData) : Statement (.scanEntryRead data) := by
  refine of_data (fun h => ?_) rfl rfl
  simp [Instr.wellFormed] at h
  simp only [taken]
  omega

theorem scanEnd (r : Option Response) (o : TakenFirst) : Statement (.scanEnd r o) := of_plain rfl rfl rfl

theorem storeWriteFault (o : TakenFirst) : Statement (.storeWriteFault o) := of_plain rfl rfl rfl

theorem demandRecord : Statement .demandRecord := of_plain rfl rfl rfl

theorem freshnessTimerExpiry : Statement .freshnessTimerExpiry := of_plain rfl rfl rfl

theorem graceTimerExpiry : Statement .graceTimerExpiry := of_plain rfl rfl rfl

theorem speedSample (bytes : List Byte) : Statement (.speedSample bytes) := of_bytes rfl rfl rfl rfl

theorem sensorTimerExpiry : Statement .sensorTimerExpiry := of_plain rfl rfl rfl

theorem standstillDwellExpiry : Statement .standstillDwellExpiry := of_plain rfl rfl rfl

theorem recoveryDwellExpiry (axle : Axle) : Statement (.recoveryDwellExpiry axle) := of_plain rfl rfl rfl

theorem holdDwellExpiry (truck : Truck) : Statement (.holdDwellExpiry truck) := of_plain rfl rfl rfl

theorem reapplyDwellExpiry (truck : Truck) : Statement (.reapplyDwellExpiry truck) := of_plain rfl rfl rfl

theorem releaseTimerExpiry (truck : Truck) : Statement (.releaseTimerExpiry truck) := of_plain rfl rfl rfl

theorem frameDiscarded (link : Link) (bytes : List Byte) : Statement (.frameDiscarded link bytes) :=
  of_bytes rfl rfl rfl rfl

theorem dynReport (bytes : List Byte) : Statement (.dynReport bytes) := of_bytes rfl rfl rfl rfl

theorem airReport (bytes : List Byte) : Statement (.airReport bytes) := of_bytes rfl rfl rfl rfl

theorem releaseAck (bytes : List Byte) : Statement (.releaseAck bytes) := of_bytes rfl rfl rfl rfl

theorem keepaliveTimerExpiry (channel : Channel) : Statement (.keepaliveTimerExpiry channel) := of_plain rfl rfl rfl

theorem replyTimerExpiry (channel : Channel) (sequence : Byte) : Statement (.replyTimerExpiry channel sequence) :=
  of_plain rfl rfl rfl

theorem handshakeTimerExpiry : Statement .handshakeTimerExpiry := of_plain rfl rfl rfl

theorem phaseTimerExpiry : Statement .phaseTimerExpiry := of_plain rfl rfl rfl

theorem triggerLineChange (line : Line) (high : Bool) : Statement (.triggerLineChange line high) :=
  of_plain rfl rfl rfl

theorem debounceTimerExpiry (line : Line) : Statement (.debounceTimerExpiry line) := of_plain rfl rfl rfl

theorem captureWindowExpiry : Statement .captureWindowExpiry := of_plain rfl rfl rfl

theorem calendarWrap : Statement .calendarWrap := of_plain rfl rfl rfl

theorem powerFailWarning : Statement .powerFailWarning := of_plain rfl rfl rfl

theorem powerFailWarningEnd : Statement .powerFailWarningEnd := of_plain rfl rfl rfl

theorem powerOnReset : Statement .powerOnReset := of_plain rfl rfl rfl

theorem powerOnResetRelease (strap2 strap1 backupGood : Bool) :
    Statement (.powerOnResetRelease strap2 strap1 backupGood) := of_plain rfl rfl rfl

theorem coreReset : Statement .coreReset := of_plain rfl rfl rfl

theorem coreResetRelease (strap2 strap1 : Bool) (lines : LinePlace) :
    Statement (.coreResetRelease strap2 strap1 lines) := of_plain rfl rfl rfl

theorem acknowledgeFlags : Statement .acknowledgeFlags := of_plain rfl rfl rfl

theorem setIndication : Statement .setIndication := of_plain rfl rfl rfl

theorem setTime : Statement .setTime := of_plain rfl rfl rfl

theorem armTriggerLine : Statement .armTriggerLine := of_plain rfl rfl rfl

theorem triggerIncident : Statement .triggerIncident := of_plain rfl rfl rfl

theorem eraseStore : Statement .eraseStore := of_plain rfl rfl rfl

theorem retainIncident : Statement .retainIncident := of_plain rfl rfl rfl

theorem releaseIncident : Statement .releaseIncident := of_plain rfl rfl rfl

theorem setKey : Statement .setKey := of_plain rfl rfl rfl

theorem setRetentionLevel : Statement .setRetentionLevel := of_plain rfl rfl rfl

theorem resetAttributes : Statement .resetAttributes := of_plain rfl rfl rfl

theorem freeze : Statement .freeze := of_plain rfl rfl rfl

theorem resetPenalty : Statement .resetPenalty := of_plain rfl rfl rfl

theorem resetEmergency : Statement .resetEmergency := of_plain rfl rfl rfl

theorem clearSlideFault : Statement .clearSlideFault := of_plain rfl rfl rfl

theorem testAirPath : Statement .testAirPath := of_plain rfl rfl rfl

theorem abortAirPathTest : Statement .abortAirPathTest := of_plain rfl rfl rfl

theorem releaseTraction : Statement .releaseTraction := of_plain rfl rfl rfl

theorem resumeTraction : Statement .resumeTraction := of_plain rfl rfl rfl

theorem millisecondTick : Statement .millisecondTick := of_plain rfl rfl rfl

end Sys2Proof.Laws.WellShaped
end

