-- ==== Sys2Proof/Laws/Requests.lean ====
section
/-! SUPPORT. What every request an event makes leaves behind, said once: flags only come on, the lifetime count only
rises, the port, the LOAD claim and the store's image stand, and the directive slot moves only for a directive of the
actuator link unit. -/

namespace Sys2Proof.Machine

variable {s t u : State}

/-- The directives that the actuator link unit answers by itself (R129, R130, R136). -/
def linkCodes : List DirectiveCode := [.testAirPath, .releaseTraction, .resumeTraction]

/-- No directive of the actuator link unit is in the slot. -/
def State.slotQuiet (s : State) : Prop := ∀ x, s.decoder.slot = some x → x.code ∉ linkCodes

/-- What the requests of an event keep. -/
structure Requests (s t : State) : Prop where
  inputs : t.inputs = s.inputs
  flags : ∀ f, flagSet s.status.flags f = true → flagSet t.status.flags f = true
  direct : t.status.direct = s.status.direct
  handed : s.status.demandHanded = s.demand.st → t.status.demandHanded = t.demand.st
  lifetime : s.recorder.lifetime ≤ t.recorder.lifetime
  port : t.arb.port = s.arb.port
  load : t.arb.load = s.arb.load
  pass : t.arb.pass = s.arb.pass
  waits : t.arb.storeWait = s.arb.storeWait ∧ t.arb.passWait = s.arb.passWait
  store : t.recorder.store = s.recorder.store
  image : t.recorder.image = s.recorder.image
  scan : t.recorder.scan = s.recorder.scan
  aborts : t.decoder.aborts = s.decoder.aborts
  abandoned : t.decoder.abandoned = s.decoder.abandoned
  slot : s.slotQuiet → t.decoder = s.decoder

theorem Requests.refl : Requests s s :=
  ⟨rfl, fun _ h => h, rfl, fun h => h, Nat.le_refl _, rfl, rfl, rfl, ⟨rfl, rfl⟩, rfl, rfl, rfl, rfl, rfl, fun _ => rfl⟩

theorem Requests.trans (h : Requests s t) (k : Requests t u) : Requests s u where
  inputs := k.inputs.trans h.inputs
  flags f e := k.flags f (h.flags f e)
  direct := k.direct.trans h.direct
  handed e := k.handed (h.handed e)
  lifetime := Nat.le_trans h.lifetime k.lifetime
  port := k.port.trans h.port
  load := k.load.trans h.load
  pass := k.pass.trans h.pass
  waits := ⟨k.waits.1.trans h.waits.1, k.waits.2.trans h.waits.2⟩
  store := k.store.trans h.store
  image := k.image.trans h.image
  scan := k.scan.trans h.scan
  aborts := k.aborts.trans h.aborts
  abandoned := k.abandoned.trans h.abandoned
  slot q := by
    have e := h.slot q
    exact (k.slot (by simpa [State.slotQuiet, e] using q)).trans e

theorem Requests.ite {b : Prop} [Decidable b] (h : b → Requests s t) (k : ¬ b → Requests s u) :
    Requests s (if b then t else u) := by split <;> simp_all

/-- A change outside what a request touches. -/
theorem Requests.of (a : t.inputs = s.inputs) (b : t.status = s.status) (c : t.recorder = s.recorder)
    (d : t.arb = s.arb) (e : t.decoder = s.decoder) (f : t.demand = s.demand) : Requests s t := by
  constructor <;> simp_all

/-- A change of the demand that is then handed on. -/
theorem Requests.rebase {d : DemandUnit} (h : Requests { s with demand := d } t)
    (k : t.status.demandHanded = t.demand.st) : Requests s t :=
  ⟨h.inputs, h.flags, h.direct, fun _ => k, h.lifetime, h.port, h.load, h.pass, h.waits, h.store, h.image, h.scan,
    h.aborts, h.abandoned, h.slot⟩

/-! ### Flags -/

/-- A flag is set when the bit at its position is (R207). -/
theorem flagSet_eq (a : BitVec 16) (f : EventFlag) : flagSet a f = a.getLsbD f.position := by
  have h : EventFlag.mask f = BitVec.twoPow 16 f.position := by cases f <;> rfl
  have k : BitVec.twoPow 16 f.position ≠ 0#16 := by cases f <;> decide
  unfold flagSet
  rw [h, BitVec.and_twoPow]
  cases a.getLsbD f.position <;> simp [k]

theorem flagSet_or (a b : BitVec 16) (f : EventFlag) (h : flagSet a f = true) : flagSet (a ||| b) f = true := by
  rw [flagSet_eq] at *
  simp [h]

theorem flagSet_mask (a : BitVec 16) (f : EventFlag) : flagSet (a ||| f.mask) f = true := by
  rw [flagSet_eq]
  cases f <;> simp [EventFlag.mask, EventFlag.position]

/-- A requested flag is set, outside a reset (R198). -/
theorem setFlag_sets (f : EventFlag) (h : s.anyReset = false) : flagSet (setFlag f s).status.flags f = true := by
  simp [setFlag, h, flagSet_mask]

theorem setFlag_requests (f : EventFlag) (s : State) : Requests s (setFlag f s) := by
  unfold setFlag
  refine Requests.ite (fun _ => Requests.refl) fun _ => ?_
  constructor <;> first | rfl | simp_all [flagSet_or]

theorem emit_requests (e : Emission) (s : State) : Requests s (emit e s) := Requests.of rfl rfl rfl rfl rfl rfl

/-! ### Write sequences -/

/-- A change of the recorder and of the STORE claim alone. -/
theorem Requests.ofRecorder (a : t.inputs = s.inputs) (b : t.status = s.status ∧ t.demand = s.demand)
    (c : t.decoder = s.decoder) (d : { t.arb with store := none } = { s.arb with store := none })
    (l : s.recorder.lifetime ≤ t.recorder.lifetime) (e : t.recorder.store = s.recorder.store)
    (i : t.recorder.image = s.recorder.image) (x : t.recorder.scan = s.recorder.scan) : Requests s t := by
  simp only [Arbiter.mk.injEq] at d
  constructor <;> simp_all

theorem askPart_requests (q : Sequence) (ps : List Part) (s : State) : Requests s (askPart q ps s) := by
  induction ps with
  | nil => exact Requests.ofRecorder rfl ⟨rfl, rfl⟩ rfl rfl (Nat.le_refl _) rfl rfl rfl
  | cons p ps ih =>
    unfold askPart
    split
    · exact ih
    · exact Requests.ofRecorder rfl ⟨rfl, rfl⟩ rfl rfl (Nat.le_refl _) rfl rfl rfl

theorem presentNext_requests (s : State) : Requests s (presentNext s) := by
  unfold presentNext
  split
  · exact Requests.refl
  · refine Requests.ite (fun _ => Requests.refl) fun _ => ?_
    split
    · exact Requests.ofRecorder rfl ⟨rfl, rfl⟩ rfl rfl (Nat.le_refl _) rfl rfl rfl
    · exact askPart_requests ..

theorem setRunning_requests (r : Option Running) (s : State) :
    Requests s { s with recorder := { s.recorder with running := r } } :=
  Requests.ofRecorder rfl ⟨rfl, rfl⟩ rfl rfl (Nat.le_refl _) rfl rfl rfl

theorem setQueue_requests (q : List Sequence) (s : State) :
    Requests s { s with recorder := { s.recorder with queue := q } } :=
  Requests.ofRecorder rfl ⟨rfl, rfl⟩ rfl rfl (Nat.le_refl _) rfl rfl rfl

theorem startWaiting_requests (s : State) : Requests s (startWaiting s) := by
  unfold startWaiting
  split
  · rename_i q rest _ _
    exact ((setQueue_requests rest s).trans (setRunning_requests (some ⟨q, q.parts s.params.slots, []⟩) _)).trans
      (presentNext_requests _)
  · exact Requests.refl

theorem askSequence_requests (q : Sequence) (s : State) : Requests s (askSequence q s) := by
  unfold askSequence
  exact Requests.ite (fun _ => Requests.refl) fun _ =>
    (setQueue_requests (s.recorder.queue ++ [q]) s).trans (startWaiting_requests _)

theorem endSequence_requests (s : State) : Requests s (endSequence s) :=
  (setRunning_requests none s).trans (startWaiting_requests _)

theorem askHeader_requests (s : State) : Requests s (askHeader s) :=
  Requests.ite (fun _ => Requests.refl) fun _ => askSequence_requests ..

/-! ### The recorder -/

theorem enterClosing_requests (m : ClosingMark) (s : State) : Requests s (enterClosing m s) :=
  (Requests.ofRecorder rfl ⟨rfl, rfl⟩ rfl rfl (Nat.le_refl _) rfl rfl rfl : Requests s
    { s with recorder := { s.recorder with st := .closing, incident := _ } }).trans (askSequence_requests ..)

theorem offerEntry_requests (e : TraceEntry) (s : State) : Requests s (offerEntry e s) := by
  unfold offerEntry
  split
  · have a : ∀ i, Requests s { s with recorder := { s.recorder with incident := i } } := fun _ =>
      Requests.ofRecorder rfl ⟨rfl, rfl⟩ rfl rfl (Nat.le_refl _) rfl rfl rfl
    exact Requests.ite (fun _ => (a _).trans (enterClosing_requests ..)) fun _ => a _
  · exact Requests.refl

theorem setRing_requests (r : List TraceEntry) (s : State) :
    Requests s { s with recorder := { s.recorder with ring := r } } :=
  Requests.ofRecorder rfl ⟨rfl, rfl⟩ rfl rfl (Nat.le_refl _) rfl rfl rfl

theorem trace_requests (k : TraceKind) (s : State) : Requests s (trace k s) := by
  unfold trace
  exact Requests.ite (fun _ => Requests.refl) fun _ => (setRing_requests _ s).trans (offerEntry_requests ..)

/-- A change of the recorder alone. -/
theorem setRecorder_requests (r : Recorder) (s : State) (l : s.recorder.lifetime ≤ r.lifetime)
    (e : r.store = s.recorder.store) (i : r.image = s.recorder.image) (x : r.scan = s.recorder.scan) :
    Requests s { s with recorder := r } :=
  Requests.ofRecorder rfl ⟨rfl, rfl⟩ rfl rfl l e i x

theorem openIncident_requests (x : Cause) (xs : List Cause) (n : Nat) (c : IncidentClass) (s : State) :
    Requests s (openIncident x xs n c s) := by
  refine Requests.trans ?_ (askSequence_requests ..)
  exact setRecorder_requests _ s (Nat.le_succ _) rfl rfl rfl

theorem countUnstored_requests (n : Nat) (x : Option Cause) (b : Bool) (s : State) : Requests s
    { s with recorder := { s.recorder with unstored := n, lastUnstored := x, stale := b } } :=
  Requests.ofRecorder rfl ⟨rfl, rfl⟩ rfl rfl (Nat.le_refl _) rfl rfl rfl

theorem unstored_requests (x : Cause) (s : State) : Requests s (unstored x s) := by
  have a := (countUnstored_requests (satAdd 65535 s.recorder.unstored) (some x) true s).trans
    (setFlag_requests .storeAlert _)
  exact Requests.ite (fun _ => a.trans (askHeader_requests _)) fun _ => a

theorem assemble_requests (x : Cause) (s : State) : Requests s (assemble x s) := by
  unfold assemble
  split
  · exact openIncident_requests ..
  · exact Requests.ofRecorder rfl ⟨rfl, rfl⟩ rfl rfl (Nat.le_refl _) rfl rfl rfl
  · exact Requests.ofRecorder rfl ⟨rfl, rfl⟩ rfl rfl (Nat.le_refl _) rfl rfl rfl
  · exact unstored_requests ..

theorem trigger_requests (c : TriggerCause) (s : State) : Requests s (trigger c s) := by
  unfold trigger raise
  exact Requests.ite (fun _ => Requests.refl) fun _ => (trace_requests ..).trans (assemble_requests ..)

theorem disposePending_requests (s : State) : Requests s (disposePending s) := by
  unfold disposePending
  split
  · exact Requests.refl
  · have a := (Requests.ofRecorder rfl ⟨rfl, rfl⟩ rfl rfl (Nat.le_refl _) rfl rfl rfl : Requests s
      { s with recorder := { s.recorder with waiting := none } })
    exact Requests.ite (fun _ => a.trans (openIncident_requests ..)) fun _ => a.trans (unstored_requests ..)

theorem countHealth_requests (h : Health) (s : State) : Requests s (countHealth h s) := by
  unfold countHealth
  have a : ∀ r, Requests s { s with retention := r } := fun _ => Requests.of rfl rfl rfl rfl rfl rfl
  refine Requests.ite (fun _ => Requests.refl) fun _ => Requests.ite (fun _ => ?_) fun _ => a _
  exact ((a _).trans (setFlag_requests ..)).trans (trigger_requests ..)

/-- A result of a directive of the actuator link unit. -/
theorem finish_requests (c : DirectiveCode) (r : DirResult) (h : c ∈ linkCodes) (s : State) :
    Requests s (finish c r s) := by
  unfold finish publish
  split
  · rename_i x hx
    refine Requests.ite (fun e => ?_) fun _ => Requests.refl
    have q : ¬ s.slotQuiet := fun q => q x hx (by simp_all)
    have a : Requests s { s with decoder := { s.decoder with slot := none, last := ⟨x.tag, x.code.code, r⟩ } } := by
      constructor <;> simp_all
    exact (a.trans (setFlag_requests .directiveDone _)).trans (trace_requests ..)
  · exact Requests.refl

/-! ### Slide unit -/

theorem foldl_requests {α : Type} (f : State → α → State) (h : ∀ s x, Requests s (f s x)) (xs : List α) (s : State) :
    Requests s (xs.foldl f s) := by
  induction xs generalizing s with
  | nil => exact Requests.refl
  | cons x xs ih => exact (h s x).trans (ih _)

theorem reportAxle_requests (o n : SlideUnit) (s : State) (x : Axle) : Requests s (reportAxle o n s x) :=
  Requests.ite (fun _ => Requests.refl) fun _ => trace_requests ..

theorem reportTruck_requests (o n : SlideUnit) (s : State) (k : Truck) : Requests s (reportTruck o n s k) :=
  Requests.ite (fun _ => Requests.refl) fun _ => trace_requests ..

theorem reportCount_requests (o n : SlideUnit) (s : State) (k : Truck) : Requests s (reportCount o n s k) := by
  refine Requests.ite (fun _ => Requests.refl) fun _ => ?_
  split <;> first | exact countHealth_requests .. | exact Requests.refl

theorem reportFlag_requests (o n : SlideUnit) (s : State) (k : Truck) : Requests s (reportFlag o n s k) := by
  refine Requests.ite (fun _ => Requests.refl) fun _ => ?_
  split <;> first | exact setFlag_requests .. | exact Requests.refl

theorem reportTrigger_requests (o n : SlideUnit) (s : State) (k : Truck) : Requests s (reportTrigger o n s k) := by
  refine Requests.ite (fun _ => Requests.refl) fun _ => ?_
  split <;> first | exact trigger_requests .. | exact Requests.refl

theorem slideReports_requests (o n : SlideUnit) (s : State) : Requests s (slideReports o n s) :=
  ((((((((foldl_requests _ (reportAxle_requests o n) allAxles s).trans (reportTruck_requests ..)).trans
    (reportTruck_requests ..)).trans (reportCount_requests ..)).trans (reportCount_requests ..)).trans
    (reportFlag_requests ..)).trans (reportFlag_requests ..)).trans (reportTrigger_requests ..)).trans
    (reportTrigger_requests ..)

theorem slideRun_requests (e : SlideEvent) (s : State) : Requests s (slideRun e s) :=
  (Requests.of rfl rfl rfl rfl rfl rfl : Requests s { s with slide := slideNext e s }).trans (slideReports_requests ..)

/-! ### Traction channel -/

theorem setTraction_requests (c : TractionChannel) (s : State) : Requests s { s with traction := c } :=
  Requests.of rfl rfl rfl rfl rfl rfl

theorem enterTraction_requests (x : TractionState) (s : State) : Requests s (enterTraction x s) :=
  (setTraction_requests ..).trans (trace_requests ..)

theorem tractionLost_requests (s : State) : Requests s (tractionLost s) :=
  (((enterTraction_requests .lost s).trans (setFlag_requests ..)).trans (countHealth_requests ..)).trans
    (trigger_requests ..)

theorem tractionMissed_requests (s : State) : Requests s (tractionMissed s) :=
  (setTraction_requests _ s).trans (Requests.ite (fun _ => tractionLost_requests _) fun _ => Requests.refl)

theorem pushTraction_requests (s : State) : Requests s (pushTraction s) :=
  (setTraction_requests _ s).trans (emit_requests ..)

theorem sendTraction_requests (s : State) : Requests s (sendTraction s) :=
  Requests.ite (fun _ => (pushTraction_requests s).trans (tractionMissed_requests _)) fun _ => pushTraction_requests s

theorem takeTargets_requests (v : Six Nat) (s : State) : Requests s (takeTargets v s) :=
  Requests.ite (fun _ => Requests.refl) fun _ =>
    (setTraction_requests _ s).trans (Requests.ite (fun _ => sendTraction_requests _) fun _ => Requests.refl)

theorem startResume_requests (o : HsOrigin) (s : State) : Requests s (startResume o s) :=
  (((setTraction_requests _ s).trans (emit_requests ..)).trans (enterTraction_requests ..)).trans
    (sendTraction_requests _)

theorem autoResume_requests (b : Bool) (s : State) : Requests s (autoResume b s) := by
  unfold autoResume
  split
  · have a := (startResume_requests .automatic s).trans (finish_requests .releaseTraction .aborted (by decide) _)
    exact Requests.ite (fun _ => a.trans (trigger_requests ..)) fun _ => a
  · have a := startResume_requests .automatic s
    exact Requests.ite (fun _ => a.trans (trigger_requests ..)) fun _ => a
  all_goals exact Requests.refl

theorem tractionRestored_requests (m : ConverterMode) (s : State) : Requests s (tractionRestored m s) := by
  unfold tractionRestored
  split
  · exact Requests.ite (fun _ => enterTraction_requests ..) fun _ => Requests.refl
  · exact Requests.ite (fun _ => enterTraction_requests ..) fun _ => Requests.refl
  · refine Requests.ite (fun _ => ?_) fun _ => Requests.refl
    have a := (setTraction_requests { s.traction with hsKind := .none, hsTimer := .stopped } s).trans
      (enterTraction_requests .active _)
    exact Requests.ite (fun _ => a.trans (finish_requests _ _ (by decide) _)) fun _ => a
  all_goals exact Requests.refl

theorem takeDynReport_requests (n : Nat) (d : DynData) (s : State) : Requests s (takeDynReport n d s) := by
  unfold takeDynReport
  split
  · exact trace_requests ..
  · exact ((setTraction_requests _ s).trans (setTraction_requests ..)).trans (tractionRestored_requests ..)
  · exact (((setTraction_requests _ s).trans (setTraction_requests ..)).trans (trace_requests ..)).trans
      (tractionRestored_requests ..)

/-! ### Air channel -/

theorem setAir_requests (c : AirChannel) (s : State) : Requests s { s with air := c } := Requests.of rfl rfl rfl rfl rfl rfl

theorem pushAir_requests (s : State) : Requests s (pushAir s) := (setAir_requests _ s).trans (emit_requests ..)

theorem enterAir_requests (x : LinkState) (s : State) : Requests s (enterAir x s) :=
  (setAir_requests ..).trans (trace_requests ..)

theorem airLossRequests_requests (s : State) : Requests s (airLossRequests s) :=
  ((setFlag_requests .linkLost s).trans (countHealth_requests ..)).trans (trigger_requests ..)

theorem airLost_requests (s : State) : Requests s (airLost s) :=
  (enterAir_requests .lost s).trans (airLossRequests_requests _)

theorem recordTestEnd_requests (r : TestResult) (p : TestPhase) (v : Pair Nat) (s : State) :
    Requests s (recordTestEnd r p v s) :=
  ((setAir_requests _ s).trans (trace_requests ..)).trans (finish_requests _ _ (by decide) _)

theorem sourceToBlend_requests (b : Bool) (s : State) : Requests s (sourceToBlend b s) := by
  have a := (setAir_requests { s.air with source := .blend } s).trans (pushAir_requests _)
  exact Requests.ite (fun _ => a.trans (setAir_requests ..)) fun _ => a

theorem endTest_requests (r : TestResult) (s : State) : Requests s (endTest r s) := by
  refine Requests.ite (fun _ => Requests.refl) fun _ => ?_
  have a : Requests s (if s.endFails = true then enterAir .lost s else s) :=
    Requests.ite (fun _ => enterAir_requests ..) fun _ => Requests.refl
  have b := (a.trans (recordTestEnd_requests r s.air.phase s.achievedPressures _)).trans
    (sourceToBlend_requests (listFull s.air.list) _)
  exact (Requests.ite (fun _ => b.trans (airLossRequests_requests _)) fun _ => b).trans (trigger_requests ..)

theorem airMissed_requests (s : State) : Requests s (airMissed s) :=
  (setAir_requests _ s).trans
    (Requests.ite (fun _ => (airLost_requests _).trans (endTest_requests ..)) fun _ => Requests.refl)

theorem sendAir_requests (s : State) : Requests s (sendAir s) :=
  Requests.ite (fun _ => (pushAir_requests s).trans (airMissed_requests _)) fun _ => pushAir_requests s

theorem takePressures_requests (v : Pair Nat) (s : State) : Requests s (takePressures v s) := by
  unfold takePressures
  split
  · exact Requests.refl
  · dsimp only
    split
    · exact (setAir_requests _ s).trans (sendAir_requests _)
    · exact setAir_requests _ s

theorem enterPhase_requests (p : TestPhase) (s : State) : Requests s (enterPhase p s) :=
  (setAir_requests _ s).trans (sendAir_requests _)

theorem judgePhase_requests (v : Pair Nat) (s : State) : Requests s (judgePhase v s) := by
  have a : ∀ ph u, Requests u (phaseOver ph u) := fun ph u => by
    unfold phaseOver
    split
    · exact enterPhase_requests ..
    · exact endTest_requests ..
  exact Requests.ite (fun _ => (trace_requests (.test s.air.phase .phasePassed) s).trans (a ..)) fun _ => Requests.refl

theorem takeAirReport_requests (n : Nat) (v : Pair Nat) (s : State) : Requests s (takeAirReport n v s) := by
  have r : ∀ u, Requests u (airRestored u) := fun u =>
    Requests.ite (fun _ => enterAir_requests ..) fun _ => Requests.refl
  unfold takeAirReport
  split
  · exact trace_requests ..
  · exact (((setAir_requests _ s).trans (setAir_requests ..)).trans (r _)).trans (judgePhase_requests ..)
  · exact (((setAir_requests _ s).trans (setAir_requests ..)).trans (trace_requests ..)).trans (r _)

theorem linksLoseStandstill_requests (b : Bool) (s : State) : Requests s (linksLoseStandstill b s) :=
  (autoResume_requests b s).trans (endTest_requests ..)

/-! ### Blend unit -/

theorem setBlend_requests (b : BlendUnit) (s : State) : Requests s { s with blend := b } :=
  Requests.of rfl rfl rfl rfl rfl rfl

theorem gridRequests_requests (k : Truck) (o n : GridState) (v : Nat) (s : State) :
    Requests s (gridRequests k o n v s) := by
  have a := trace_requests (.grid k o n v) s
  unfold gridRequests
  cases n
  · exact a
  · exact (a.trans (setFlag_requests ..)).trans (countHealth_requests ..)
  · exact ((a.trans (setFlag_requests ..)).trans (countHealth_requests ..)).trans (trigger_requests ..)

theorem evalGrid_requests (k : Truck) (s : State) : Requests s (evalGrid k s) :=
  Requests.ite (fun _ => Requests.refl) fun _ => (setBlend_requests _ s).trans (gridRequests_requests ..)

theorem evalGrids_requests (s : State) : Requests s (evalGrids s) :=
  Requests.ite (fun _ => (evalGrid_requests .a s).trans (evalGrid_requests .b _)) fun _ => Requests.refl

theorem traceBlend_requests (s : State) : Requests s (traceBlend s) :=
  Requests.ite (fun _ => (setBlend_requests _ s).trans (trace_requests ..)) fun _ => Requests.refl

theorem handTargets_requests (s : State) : Requests s (handTargets s) :=
  Requests.ite (fun _ => Requests.refl) fun _ => (setBlend_requests _ s).trans (takeTargets_requests ..)

theorem handAir_requests (s : State) : Requests s (handAir s) :=
  Requests.ite (fun _ => Requests.refl) fun _ => (setBlend_requests _ s).trans (takePressures_requests ..)

theorem handSlide_requests (s : State) : Requests s (handSlide s) :=
  Requests.ite (fun _ => Requests.refl) fun _ =>
    (Requests.of rfl rfl rfl rfl rfl rfl : Requests s { s with
      blend := { s.blend with handedSlide := some s.blend.commanded }
      slide := { s.slide with commanded := some s.blend.commanded } }).trans (slideRun_requests ..)

theorem recompute_requests (g : Bool) (s : State) : Requests s (recompute g s) := by
  have a : Requests s (if g then evalGrids s else s) :=
    Requests.ite (fun _ => evalGrids_requests s) fun _ => Requests.refl
  exact ((((a.trans (setBlend_requests _ _)).trans (traceBlend_requests _)).trans (handTargets_requests _)).trans
    (handAir_requests _)).trans (handSlide_requests _)

theorem recomputeLoop_requests (n : Nat) (g : Bool) (s : State) : Requests s (recomputeLoop n g s) := by
  induction n generalizing g s with
  | zero => exact Requests.refl
  | succ n ih => exact Requests.ite (fun _ => (recompute_requests g s).trans (ih ..)) fun _ => recompute_requests g s

theorem blendEvent_requests (g : Bool) (s : State) : Requests s (blendEvent g s) :=
  Requests.ite (fun _ => Requests.refl) fun _ => recomputeLoop_requests ..

theorem slideEvent_requests (e : SlideEvent) (s : State) : Requests s (slideEvent e s) :=
  Requests.ite (fun _ => (slideRun_requests e s).trans (blendEvent_requests ..)) fun _ => slideRun_requests e s

/-! ### Demand supervisor -/

theorem linksTakeDemand_requests (m : HandMark) (s : State) : Requests s (linksTakeDemand m s) := by
  have a : Requests s (if s.demand.st == .emergency && m == .state then autoResume false s else s) :=
    Requests.ite (fun _ => autoResume_requests ..) fun _ => Requests.refl
  exact Requests.ite (fun _ => a) fun _ => a.trans (endTest_requests ..)

theorem withTractionChange_requests (f : State → State) (s : State) (h : Requests s (f s)) :
    Requests s (withTractionChange f s) :=
  Requests.ite (fun _ => h.trans (blendEvent_requests ..)) fun _ => h

/-- R51: the status unit holds the demand state that was handed on. -/
theorem handDemand_handed (m : HandMark) (s : State) :
    (handDemand m s).status.demandHanded = (handDemand m s).demand.st :=
  (((slideRun_requests .exam { s with status := { s.status with demandHanded := s.demand.st } }).trans
    (blendEvent_requests ..)).trans (withTractionChange_requests _ _ (linksTakeDemand_requests m _))).handed rfl

theorem handDemand_requests (m : HandMark) (s : State) : Requests s (handDemand m s) := by
  have h := ((slideRun_requests .exam { s with status := { s.status with demandHanded := s.demand.st } }).trans
    (blendEvent_requests false _)).trans (withTractionChange_requests _ _ (linksTakeDemand_requests m _))
  exact ⟨h.inputs, h.flags, h.direct, fun _ => handDemand_handed m s, h.lifetime, h.port, h.load, h.pass, h.waits,
    h.store, h.image, h.scan, h.aborts, h.abandoned, h.slot⟩

theorem handAhead_handed (s : State) : (handAhead s).status.demandHanded = (handAhead s).demand.st :=
  ((slideRun_requests .exam { s with status := { s.status with demandHanded := s.demand.st } }).trans
    (linksTakeDemand_requests ..)).handed rfl

theorem handAhead_requests (s : State) : Requests s (handAhead s) := by
  have h := (slideRun_requests .exam { s with status := { s.status with demandHanded := s.demand.st } }).trans
    (linksTakeDemand_requests .state _)
  exact ⟨h.inputs, h.flags, h.direct, fun _ => handAhead_handed s, h.lifetime, h.port, h.load, h.pass, h.waits,
    h.store, h.image, h.scan, h.aborts, h.abandoned, h.slot⟩

theorem applyEmergency_requests (b : Bool) (c : DStateCause) (s : State) : Requests s (applyEmergency b c s) := by
  refine Requests.ite (fun _ => Requests.refl) fun _ => ?_
  have t := trace_requests (.dstate s.demand.st .emergency c) { s with demand := ({ s.demand with
    freshness := .stopped, grace := .stopped, emergencyLatch := true } : DemandUnit).enter .emergency }
  refine Requests.trans ?_ (setFlag_requests ..)
  cases b
  · exact (t.trans (handDemand_requests .state _)).rebase (handDemand_handed ..)
  · exact (t.trans (handAhead_requests _)).rebase (handAhead_handed ..)

theorem penaltyRequests_requests (c : TriggerCause) (s : State) : Requests s (penaltyRequests c s) :=
  ((setFlag_requests .penalty s).trans (countHealth_requests ..)).trans (trigger_requests ..)

theorem applyPenalty_requests (c : DStateCause) (x : TriggerCause) (s : State) : Requests s (applyPenalty c x s) :=
  (((trace_requests (.dstate s.demand.st .penalty c) _).trans (handDemand_requests .state _)).rebase
    (handDemand_handed ..)).trans (penaltyRequests_requests ..)

theorem emergencyLineRequest_requests (b : Bool) (s : State) : Requests s (emergencyLineRequest b s) :=
  Requests.ite (fun _ => Requests.refl) fun _ => applyEmergency_requests ..

/-! ### Trigger lines -/

theorem setLine_requests (l : Line) (f : LineState → LineState) (s : State) : Requests s (setLine l f s) :=
  Requests.of rfl rfl rfl rfl rfl rfl

theorem detect_requests (b : Bool) (l : Line) (s : State) : Requests s (detect b l s) := by
  have d : ∀ u, Requests u (disarmLine l u) := fun u =>
    Requests.ite (fun _ => Requests.refl) fun _ => setLine_requests ..
  have e : ∀ u, Requests u (lineEmergency b l u) := fun u =>
    Requests.ite (fun _ => emergencyLineRequest_requests ..) fun _ => Requests.refl
  refine Requests.ite (fun _ => Requests.refl) fun _ => Requests.ite (fun _ => ?_) fun _ => trace_requests ..
  exact (((trace_requests ..).trans (d _)).trans (e _)).trans (assemble_requests ..)

theorem followLevel_requests (b : Bool) (l : Line) (s : State) : Requests s (followLevel b l s) := by
  refine Requests.ite (fun _ => Requests.ite (fun _ => ?_) fun _ => Requests.refl) fun _ => setLine_requests ..
  exact (setLine_requests ..).trans (detect_requests ..)

theorem detectAtStart_requests (b : Bool) (s : State) (l : Line) : Requests s (detectAtStart b s l) :=
  Requests.ite (fun _ => followLevel_requests ..) fun _ => Requests.refl

theorem detectLines_requests (b : Bool) (s : State) : Requests s (detectLines b s) :=
  ((detectAtStart_requests b s .l1).trans (detectAtStart_requests b _ .l2)).trans (detectAtStart_requests b _ .l3)

theorem startLines_requests (s : State) : Requests s (startLines s) := by
  have a : ∀ u l, Requests u (startLine u l) := fun _ _ => setLine_requests ..
  exact ((a s .l1).trans (a _ .l2)).trans (a _ .l3)

end Sys2Proof.Machine
end

