-- ==== Sys2Proof/Laws/Port.lean ====
section
/-! SUPPORT. The memory-side port, claim by claim: what withdrawing, discarding and granting leave, and the answer of
every command as one equation. -/

namespace Sys2Proof.Machine

variable {s t : State}

/-- A frame that names of the recorder at most its sequences. -/
theorem Frame.recorder_eq {l : List Piece} (h : Frame l s t) (a : Piece.ring ∉ l) (b : Piece.incidents ∉ l)
    (c : Piece.directory ∉ l) (d : Piece.recorderCounts ∉ l) :
    t.recorder = { s.recorder with running := t.recorder.running, queue := t.recorder.queue } := by
  have a := h.same .ring a
  have b := h.same .incidents b
  have c := h.same .directory c
  have d := h.same .recorderCounts d
  simp only [Piece.same] at a b c d
  cases p : t.recorder
  simp_all

/-- A frame that names no piece of the decoder. -/
theorem Frame.decoder_eq {l : List Piece} (h : Frame l s t) (a : Piece.assembly ∉ l) (b : Piece.slot ∉ l)
    (c : Piece.lastResult ∉ l) : t.decoder = s.decoder := by
  have a := h.same .assembly a
  have b := h.same .slot b
  have c := h.same .lastResult c
  simp only [Piece.same] at a b c
  cases p : t.decoder
  simp_all

/-- A frame that names no piece of the retention unit. -/
theorem Frame.retention_eq {l : List Piece} (h : Frame l s t) (a : Piece.keys ∉ l) (b : Piece.health ∉ l) :
    t.retention = s.retention := by
  have a := h.same .keys a
  have b := h.same .health b
  simp only [Piece.same] at a b
  cases p : t.retention
  simp_all

/-- Every command answers next, on its effect with the port granted (R14, log 8). -/
theorem run_next (f : State → State) (s : State) : run f s = .next (arbitrate (f { s with emitted := [] })) := rfl

/-- Discarding a granted burst's response changes the arbiter alone. -/
theorem discardStore_eq (s : State) : discardStore s = { s with arb := (discardStore s).arb } := by
  unfold discardStore; split <;> rfl

theorem discardLoad_eq (s : State) : discardLoad s = { s with arb := (discardLoad s).arb } := by
  unfold discardLoad; split <;> rfl

/-- R16: what a core reset leaves of the arbiter. -/
theorem resetArbiter_eq (s : State) : resetArbiter s = { s with arb := (resetArbiter s).arb } := by
  unfold resetArbiter
  rw [discardLoad_eq, discardStore_eq]

/-- With no claim waiting, nothing is granted. -/
theorem arbitrate_idle (l : s.arb.load = none) (c : s.arb.store = none) (p : s.arb.pass = none) : arbitrate s = s := by
  unfold arbitrate
  cases s.arb.port <;> simp [State.choice, l, c, p]

/-- A busy port is not granted. -/
theorem arbitrate_busy {b : PortBurst} (h : s.arb.port = some b) : arbitrate s = s := by simp [arbitrate, h]

/-- With a LOAD claim on a free port, it is granted, and the loader's next burst presented. -/
theorem arbitrate_load {b : LoadBurst} (h : s.arb.port = none) (l : s.arb.load = some b) :
    arbitrate s = grantLoad b s := by simp [arbitrate, h, State.choice, l]

/-- A command turned away: nothing but the grant of a free port. -/
theorem guarded_off {g : State → Bool} {f : State → State} (h : g s = false) : guarded g f s = s := by
  simp [guarded, h]

theorem guarded_on {g : State → Bool} {f : State → State} (h : g s = true) : guarded g f s = f s := by
  simp [guarded, h]

/-- A response to the STORE burst on the port. -/
theorem onStore_on {g : StoreBurst → Bool} {f : StoreBurst → State → State} {b : StoreBurst}
    (h : s.arb.port = some (.store b)) (d : b.discard = false) (k : g b = true) : onStore g f s = f b (freePort s) := by
  simp [onStore, h, d, k]

/-- A response to the LOAD burst on the port. -/
theorem onLoad_on {k : LoadKind} {f : LoadBurst → State → State} {b : LoadBurst} (h : s.arb.port = some (.load b))
    (d : b.discard = false) (e : b.kind = k) : onLoad k f s = f b (freePort s) := by
  simp [onLoad, h, d, e]

/-- A directive that awaits its answer reaches its owner. -/
theorem onDirective_on {c : DirectiveCode} {f : Slot → State → State} {x : Slot} (h : Awaits s c x) :
    onDirective c f s = f x s := by
  obtain ⟨a, b, d⟩ := h
  simp [onDirective, State.awaiting, a, b, d]

/-! ### The store -/

theorem askSequence_recorder (q : Sequence) (s : State) : (askSequence q s).recorder =
    { s.recorder with running := (askSequence q s).recorder.running, queue := (askSequence q s).recorder.queue } :=
  (askSequence_frame q s).recorder_eq (by decide) (by decide) (by decide) (by decide)

theorem askHeader_recorder (s : State) : (askHeader s).recorder =
    { s.recorder with running := (askHeader s).recorder.running, queue := (askHeader s).recorder.queue } :=
  (askHeader_frame s).recorder_eq (by decide) (by decide) (by decide) (by decide)

theorem endSequence_recorder (s : State) : (endSequence s).recorder =
    { s.recorder with running := (endSequence s).recorder.running, queue := (endSequence s).recorder.queue } :=
  (endSequence_frame s).recorder_eq (by decide) (by decide) (by decide) (by decide)

/-- R160: of the recorder, entering a store state moves that state, and the sequences it asks for. -/
theorem enterStore_recorder (x : StoreState) (s : State) : (enterStore x s).recorder = { s.recorder with
    store := x, running := (enterStore x s).recorder.running, queue := (enterStore x s).recorder.queue } := by
  have k : ∀ f u, (setFlag f u).recorder = u.recorder := fun f u => by unfold setFlag; split <;> rfl
  unfold enterStore
  split
  · rename_i h
    rw [← eq_of_beq h]
  · cases x <;> dsimp only
    · split
      · rw [askHeader_recorder]
      · rfl
    all_goals rw [k]

/-- R160: the store state after a re-examination. -/
theorem reexamine_recorder (s : State) : (reexamine s).recorder = { s.recorder with
    store := if s.recorder.store = .ready ∨ s.recorder.store = .full then s.byEligibility else s.recorder.store
    running := (reexamine s).recorder.running
    queue := (reexamine s).recorder.queue } := by
  unfold reexamine
  by_cases h : s.recorder.store = .ready ∨ s.recorder.store = .full
  · rw [if_pos (by simpa using h), if_pos h]
    exact enterStore_recorder ..
  · rw [if_neg (by simpa using h), if_neg h]

/-! ### Answers of directives -/

theorem finish_decoder {c : DirectiveCode} {r : DirResult} {x : Slot} (h : s.decoder.slot = some x) (k : x.code = c) :
    (finish c r s).decoder = { s.decoder with slot := none, last := ⟨x.tag, x.code.code, r⟩ } := by
  unfold finish publish
  simp only [h, k, beq_self_eq_true, if_true]
  rw [(trace_frame ..).decoder_eq (by decide) (by decide) (by decide),
    (setFlag_frame ..).decoder_eq (by decide) (by decide) (by decide)]

/-- A final answer empties the slot and names its directive. -/
theorem finish_answers {c : DirectiveCode} {r : DirResult} {x : Slot} (h : s.decoder.slot = some x) (k : x.code = c) :
    Answered (finish c r s) x r := by
  simp [Answered, finish_decoder h k]

/-- An answer to another directive does nothing. -/
theorem finish_other {c : DirectiveCode} {r : DirResult} (h : ∀ x, s.decoder.slot = some x → x.code ≠ c) :
    finish c r s = s := by
  unfold finish
  split
  · rename_i x hx; simp [h x hx]
  · rfl

theorem inProgress_underWay {x : Slot} (h : s.decoder.slot = some x) : UnderWay (inProgress s) x := by
  simp [UnderWay, inProgress, h]

/-! ### One whole frame (R209) -/

theorem feedByte_grow (b c : Byte) (bs : List Byte) : feedByte (b :: bs) c = (b :: bs) ++ [c] := rfl

/-- A receiver that has begun a frame takes bytes without judging it until it is whole. -/
theorem receive_grow (l : Link) (bs : List Byte) (s : State) (h : s.rx.get l ≠ [])
    (n : ∀ k, k < bs.length → frameWhole (s.rx.get l ++ bs.take (k + 1)) = false) :
    bs.foldl (receiveByte l) s = { s with rx := s.rx.set l (s.rx.get l ++ bs) } := by
  induction bs generalizing s with
  | nil => cases l <;> simp [Receivers.get, Receivers.set]
  | cons b bs ih =>
    have e : feedByte (s.rx.get l) b = s.rx.get l ++ [b] := by
      cases hs : s.rx.get l with
      | nil => exact absurd hs h
      | cons x xs => exact feedByte_grow x b xs
    have w : frameWhole (s.rx.get l ++ [b]) = false := by simpa using n 0 (by simp)
    have g : ∀ v : List Byte, ({ s with rx := s.rx.set l v } : State).rx.get l = v := fun v => by cases l <;> rfl
    simp only [List.foldl_cons, receiveByte, e, w, Bool.false_eq_true, if_false]
    rw [ih _ (by rw [g]; simp) (by
      intro k hk
      rw [g]
      simpa using n (k + 1) (by simp only [List.length_cons]; omega))]
    cases l <;> simp [Receivers.get, Receivers.set]

theorem field_append (off n : Nat) (a b : List Byte) (h : off + n ≤ a.length) : field off n (a ++ b) = field off n a := by
  unfold field slice
  rw [List.drop_append_of_le_length (by omega), List.take_append_of_le_length (by simp; omega)]

theorem Receivers.get_set (r : Receivers) (l : Link) (v : List Byte) : (r.set l v).get l = v := by cases l <;> rfl

theorem Receivers.set_set (r : Receivers) (l : Link) (v w : List Byte) : (r.set l v).set l w = r.set l w := by
  cases l <;> rfl

theorem Receivers.set_get (r : Receivers) (l : Link) : r.set l (r.get l) = r := by cases l <;> rfl

/-- A proper front of one whole frame is not whole. -/
theorem front_not_whole {bytes p q : List Byte} (h : OneFrame bytes) (e : bytes = p ++ q) (k : q ≠ []) :
    frameWhole p = false := by
  have h3 := h.2.2
  have hq : 0 < q.length := List.length_pos_iff.mpr k
  unfold frameWhole
  by_cases c : 4 ≤ p.length
  · rw [e, field_append 3 1 p q (by omega), List.length_append] at h3
    simp only [Bool.and_eq_false_iff, decide_eq_false_iff_not]
    right; omega
  · simp [c]

/-- Bytes that make exactly one whole frame are judged as that frame (R115, R209). -/
theorem receive_one (l : Link) (bytes : List Byte) (s : State) (r : s.anyReset = false) (e : s.rx.get l = [])
    (h : OneFrame bytes) : receive l bytes s = takeWhole l bytes s := by
  obtain ⟨b, bs, hb⟩ : ∃ b bs, bytes = b :: bs := by
    cases bytes with
    | nil => simp [OneFrame] at h
    | cons b bs => exact ⟨b, bs, rfl⟩
  have hne : bs ≠ [] := by rintro rfl; have := h.2.1; simp [hb] at this
  obtain ⟨xs, z, hz⟩ : ∃ xs z, bs = xs ++ [z] := ⟨_, _, (List.dropLast_concat_getLast hne).symm⟩
  have hd : b = 0x7E#8 := by simpa [hb] using h.1
  have whole : frameWhole bytes = true := by
    have := h.2.1
    have := h.2.2
    unfold frameWhole
    simp only [Bool.and_eq_true, decide_eq_true_eq]
    omega
  have first : receiveByte l s b = { s with rx := s.rx.set l [b] } := by
    have k : feedByte (s.rx.get l) b = [b] := by simp [e, feedByte, hd]
    unfold receiveByte
    simp only [k]
    rw [front_not_whole h (p := [b]) (q := bs) (by simp [hb]) hne]
    simp
  have middle := receive_grow l xs { s with rx := s.rx.set l [b] } (by rw [Receivers.get_set]; simp) (by
    intro k hk
    rw [Receivers.get_set]
    refine front_not_whole h (q := xs.drop (k + 1) ++ [z]) ?_ (by simp)
    rw [hb, hz, List.append_assoc, ← List.append_assoc (xs.take (k + 1)), List.take_append_drop]
    rfl)
  have last : feedByte ([b] ++ xs) z = bytes := by rw [hb, hz]; rfl
  unfold receive
  rw [r, if_neg (by decide)]
  rw [show bytes = b :: (xs ++ [z]) from by rw [hb, hz], List.foldl_cons, List.foldl_append, first, middle]
  simp only [List.foldl_cons, List.foldl_nil, receiveByte, Receivers.get_set, Receivers.set_set, last, whole, if_true]
  rw [show s.rx.set l [] = s.rx from by rw [← e, Receivers.set_get], hb, hz]

end Sys2Proof.Machine
end

