-- ==== Sys2Proof/Laws/Reports.lean ====
section
/-! SUPPORT. What a request does, in the words of the statements: a flag set, an entry made, a sequence asked for and a
trigger disposed of. -/

namespace Sys2Proof.Machine

variable {s t : State}

/-- R198: a flag that is set out of reset. -/
theorem setFlag_flagged (f : EventFlag) (h : s.anyReset = false) : Flagged f s (setFlag f s) :=
  ⟨setFlag_frame f s, by simp [setFlag, h]⟩

/-! ### Trace entries -/

theorem enterClosing_ring (m : ClosingMark) (s : State) : (enterClosing m s).recorder.ring = s.recorder.ring := by
  unfold enterClosing
  rw [askSequence_recorder]

theorem offerEntry_ring (e : TraceEntry) (s : State) : (offerEntry e s).recorder.ring = s.recorder.ring := by
  unfold offerEntry
  split
  · dsimp only
    split
    · rw [enterClosing_ring]
    · rfl
  · rfl

/-- R143: an entry made out of reset. -/
theorem trace_traced (k : TraceKind) (h : s.anyReset = false) : Traced [k] s (trace k s) := by
  simp [Traced, trace, h, offerEntry_ring, withEntry, ringPush, Config.ringCapacity]

/-- R144: one more entry of the same event. -/
theorem Traced.snoc {ks : List TraceKind} (h : Traced ks s t) (r : t.anyReset = false) (c : t.clock = s.clock)
    (k : TraceKind) : Traced (ks ++ [k]) s (trace k t) := by
  have a : (trace k t).recorder.ring = withEntry t k t.recorder.ring := trace_traced k r
  simp only [Traced] at h ⊢
  rw [List.foldl_append, ← h, a]
  simp [withEntry, c]

/-! ### Sequences -/

theorem askPart_sequence (q : Sequence) (ps : List Part) (s : State) :
    (askPart q ps s).recorder.running.map Running.sequence = some q := by
  induction ps with
  | nil => rfl
  | cons p ps ih =>
    unfold askPart
    split
    · exact ih
    · rfl

theorem presentNext_sequence {r : Running} (h : s.recorder.running = some r) :
    (presentNext s).recorder.running.map Running.sequence = some r.sequence := by
  unfold presentNext
  rw [h]
  dsimp only
  split
  · simp [h]
  · split
    · rfl
    · exact askPart_sequence ..

theorem startSequence_sequence (q : Sequence) (s : State) :
    (startSequence q s).recorder.running.map Running.sequence = some q :=
  presentNext_sequence (s := { s with recorder := { s.recorder with running := some ⟨q, q.parts s.params.slots, []⟩ } })
    rfl

theorem askPart_queue (q : Sequence) (ps : List Part) (s : State) :
    (askPart q ps s).recorder.queue = s.recorder.queue := by
  induction ps with
  | nil => rfl
  | cons p ps ih =>
    unfold askPart
    split
    · exact ih
    · rfl

theorem presentNext_queue (s : State) : (presentNext s).recorder.queue = s.recorder.queue := by
  unfold presentNext
  split
  · rfl
  · split
    · rfl
    · split
      · rfl
      · exact askPart_queue ..

theorem startSequence_queue (q : Sequence) (s : State) : (startSequence q s).recorder.queue = s.recorder.queue :=
  presentNext_queue _

/-- R159: a sequence asked for outside FAULT runs, or waits behind the one that runs. -/
theorem askSequence_asked (q : Sequence) (h : s.recorder.store ≠ .fault) : SequenceAsked q s (askSequence q s) := by
  have k : (s.recorder.store == .fault && !q.isErase) = false := by simp [h]
  constructor
  · intro a b
    simp [askSequence, k, startWaiting, a, b, startSequence_sequence]
  · intro a
    obtain ⟨r, hr⟩ := Option.isSome_iff_exists.mp a
    simp [askSequence, k, startWaiting, hr]

/-- R173: a HEADER sequence asked for outside FAULT runs or waits, be it the one that was there. -/
theorem askHeader_asked (h : s.recorder.store ≠ .fault) : HeaderAsked (askHeader s) := by
  have k : (s.recorder.store == .fault && !Sequence.isErase .header) = false := by simp [h]
  unfold askHeader
  split
  · rename_i a
    simpa [HeaderAsked] using a
  · simp only [askSequence, k, Bool.false_eq_true, if_false, startWaiting]
    split
    · rename_i q rest _ e
      cases hq : s.recorder.queue with
      | nil =>
        rw [hq] at e
        cases e
        exact .inl (startSequence_sequence ..)
      | cons x xs =>
        rw [hq] at e
        cases e
        refine .inr ?_
        rw [startSequence_queue]
        simp
    · exact .inr (by simp)

/-! ### Triggers -/

/-- R161: the condition under which an incident may open, as the statements say it. -/
theorem opens_iff (s : State) : s.canOpen = true ↔ Opens s := by
  simp [State.canOpen, Opens, and_assoc]

theorem openIncident_opened (x : Cause) (xs : List Cause) (n : Nat) (c : IncidentClass) (h : Opens s) :
    OpenedFor x xs n c s.recorder.ring s (openIncident x xs n c s) ∧
      SequenceAsked .opening s (openIncident x xs n c s) := by
  obtain ⟨a, b, _⟩ := h
  obtain ⟨k, hk⟩ := Option.isSome_iff_exists.mp b
  obtain ⟨u, e, ⟨st, li, ru, qu, so⟩, i, hi, hn, hs, hx⟩ : ∃ u, openIncident x xs n c s = askSequence .opening u ∧
      (u.recorder.st = .opening ∧ u.recorder.lifetime = s.recorder.lifetime + 1 ∧
        u.recorder.running = s.recorder.running ∧ u.recorder.queue = s.recorder.queue ∧
        u.recorder.store = s.recorder.store) ∧
      ∃ i, u.recorder.incident = some i ∧ i.number = s.recorder.lifetime + 1 ∧ i.slot = k ∧
        u.recorder.nextSlot = (i.slot + 1) % s.params.slots ∧ i.openingTime = s.clock.op ∧ i.truncated = false ∧
        i.first = x ∧ i.causes = xs ∧ i.further = n ∧ i.cls = c ∧ i.openingCls = c ∧ i.pre = s.recorder.ring ∧
        i.post = [] ∧ i.snapshot = s.snapshot := by
    refine ⟨_, rfl, ⟨rfl, rfl, rfl, rfl, rfl⟩, _, rfl, rfl, ?_, rfl, rfl, rfl, rfl, rfl, rfl, rfl, rfl, rfl, rfl, ?_⟩
    · simp [hk]
    · simp only [State.snapshot, State.axleGroups, State.truckGroups, allAxles, List.flatMap_cons, List.flatMap_nil,
        State.axleGroup, State.truckGroup]
  rw [e]
  constructor
  · unfold OpenedFor
    rw [askSequence_recorder]
    exact ⟨st, li, i, hi, hn, by rw [hs, hk], hx⟩
  · have q := askSequence_asked (s := u) .opening (by simp [so, a])
    simpa only [SequenceAsked, ru, qu] using q

theorem unstored_disposed (x : Cause) (s : State) : let t := unstored x s
    t.recorder.st = s.recorder.st ∧ t.recorder.lifetime = s.recorder.lifetime ∧
      t.recorder.unstored = satAdd 65535 s.recorder.unstored ∧ t.recorder.lastUnstored = some x ∧
      t.recorder.stale = true ∧ (s.anyReset = false → flagSet t.status.flags .storeAlert = true) ∧
      (s.recorder.store = .ready → HeaderAsked t) := by
  have k : ∀ f u, (setFlag f u).recorder = u.recorder := fun f u => by unfold setFlag; split <;> rfl
  have r : ∀ u, (askHeader u).status.flags = u.status.flags := fun u => (askHeader_frame u).same .flags (by decide)
  dsimp only [unstored]
  split
  · rename_i e
    rw [k] at e
    refine ⟨?_, ?_, ?_, ?_, ?_, fun h => ?_, fun _ => askHeader_asked fun f => by
      rw [k] at f
      rw [f] at e
      cases e⟩
    · rw [askHeader_recorder, k]
    · rw [askHeader_recorder, k]
    · rw [askHeader_recorder, k]
    · rw [askHeader_recorder, k]
    · rw [askHeader_recorder, k]
    · rw [r]
      exact setFlag_sets _ h
  · rename_i e
    rw [k] at e
    exact ⟨by rw [k], by rw [k], by rw [k], by rw [k], by rw [k], fun h => setFlag_sets _ h,
      fun h => absurd (by simp [h]) e⟩

/-- R161: incident assembly disposes of every cause. -/
theorem assemble_disposed (x : Cause) (s : State) : Disposed x s (assemble x s) := by
  have hc : ∀ a b : IncidentClass, a.higher b = higherClass a b := fun a b => by cases a <;> cases b <;> rfl
  constructor
  · intro a b
    simp only [assemble, State.disposition, a, (opens_iff s).2 b, if_true]
    exact openIncident_opened _ _ _ _ b
  · intro a b
    have e : s.canOpen = false := by simpa using mt (opens_iff s).1 b
    simp only [assemble, State.disposition, a, e, Bool.false_eq_true, if_false]
    have u := unstored_disposed x s
    exact ⟨u.1.trans a, u.2⟩
  · intro a
    have e : assemble x s =
        { s with recorder := { s.recorder with incident := s.recorder.incident.map (Incident.append x) } } := by
      rcases a with a | a <;> simp [assemble, State.disposition, a]
    rw [e]
    exact ⟨rfl, congrArg (Option.map · s.recorder.incident) (funext fun i => by rw [Incident.append, hc]; rfl)⟩
  · intro a b
    rcases a with a | a <;> simp [assemble, State.disposition, a, b, addPending]
  · intro a p b
    rcases a with a | a <;> (simp only [assemble, State.disposition, a, b, addPending, hc]; rfl)

/-- R155: a trigger that the recorder takes out of reset (R153). -/
theorem raise_raised (c : TriggerCause) (cls : IncidentClass) (h : s.anyReset = false) (k : s.takesTrigger c = true) :
    Raised c cls s (raise c cls s) := by
  refine ⟨raise_frame .., traceTrigger (stampNow s c cls) s, traceTrigger_frame .., trace_traced _ h, ?_⟩
  have e : raise c cls s = assemble (stampNow s c cls) (traceTrigger (stampNow s c cls) s) := by
    simp [raise, h, k, stamp, stampNow]
  rw [e]
  exact assemble_disposed ..

end Sys2Proof.Machine
end

