-- ==== Sys2Proof/Tests/Slice0.lean ====
section
/-! SUPPORT. Tests: terms that the well-formedness check refuses, values from the manual's tables, single steps on small
states, and for each statement of Certificates/Slice0/Obligations.lean with hypotheses a state and operands that meet
them, clause by clause. -/

namespace Sys2Proof.Tests

open Sys2Proof Sys2Proof.Machine

-- One test after another: many kernel evaluations that wait for each other would each hold a thread.
set_option Elab.async false

/-! ### Well-formedness: each check refuses an ill-formed term -/

/-- A full beat of data. -/
def full (d : BeatData) : WriteBeat := ⟨d, 0xFF⟩

theorem test_readUnaligned : (Instr.processorTransaction (.read 4 1)).wellFormed = false := by decide

theorem test_readOfNoBeat : (Instr.processorTransaction (.read 8 0)).wellFormed = false := by decide

theorem test_readOfNineBeats : (Instr.processorTransaction (.read 8 9)).wellFormed = false := by decide

theorem test_writeUnaligned : (Instr.processorTransaction (.write 7 [full 0])).wellFormed = false := by decide

theorem test_writeOfNoBeat : (Instr.processorTransaction (.write 8 [])).wellFormed = false := by decide

theorem test_writeOfNineBeats :
    (Instr.processorTransaction (.write 8 (List.replicate 9 (full 0)))).wellFormed = false := by decide

theorem test_passDataOfNineBeats : (Instr.passResponse .ok (List.replicate 9 0)).wellFormed = false := by decide

theorem test_anchorDataOfThreeBeats : (Instr.anchorReadResponse .ok [0, 0, 0]).wellFormed = false := by decide

theorem test_configDataOfSevenBeats :
    (Instr.configBurstResponse .ok (List.replicate 7 0) .grant).wellFormed = false := by decide

theorem test_storeDataOfNineBeats : (Instr.storeBurstResponse (List.replicate 9 0)).wellFormed = false := by decide

theorem test_headerDataOfSevenBeats : (Instr.scanHeaderRead (List.replicate 7 0)).wellFormed = false := by decide

theorem test_entryDataOfNoBeat : (Instr.scanEntryRead []).wellFormed = false := by decide

theorem test_entryDataOfNineBeats : (Instr.scanEntryRead (List.replicate 9 0)).wellFormed = false := by decide

theorem test_framesOfNoByte :
    (Instr.speedSample []).wellFormed = false ∧ (Instr.frameDiscarded .air []).wellFormed = false ∧
      (Instr.dynReport []).wellFormed = false ∧ (Instr.airReport []).wellFormed = false ∧
      (Instr.releaseAck []).wellFormed = false := by decide

theorem test_wellFormedTermsPass :
    (Instr.processorTransaction (.write 0x8018 [full 0x4C])).wellFormed = true ∧
      (Instr.passResponse .ok [1]).wellFormed = true ∧ (Instr.anchorReadResponse .error []).wellFormed = true ∧
      (Instr.speedSample [0x7E]).wellFormed = true ∧ Instr.freeze.wellFormed = true := by decide

/-! ### Values of the manual -/

/-- The usual check value of the CRC of section 12.1: the bytes of the digits 1 to 9. -/
theorem test_crcOfTheNineDigits :
    crc32 [0x31, 0x32, 0x33, 0x34, 0x35, 0x36, 0x37, 0x38, 0x39] = 0xCBF43926 := by decide +kernel

theorem test_littleEndianField : field 1 2 [0xFF, 0x34, 0x12, 0xFF] = 0x1234 := by decide

theorem test_checksumOfFullBytes : checksumOf [0xFF, 0x02] = 0xFF ∧ checksumHolds [0xFF, 0x02, 0xFF] = true := by
  decide

/-- The anchor addresses of section 2.1. -/
theorem test_anchorAddresses :
    Config.anchorAddress false false = 0x00008000 ∧ Config.anchorAddress true true = 0x7FFFF000 := by decide

theorem test_imageHas1024Bytes : State.reset.image.length = 1024 := by decide +kernel

theorem test_snapshotHas128Bytes : State.reset.snapshot.length = 128 := by decide +kernel

theorem test_noWordSpellsACommand : decodeTableWord 32 0x12345678 = none := by decide

theorem test_fetchWordLeavesTheState : State.reset.withFetchWord 32 5 = State.reset := by decide

theorem test_lengthsOfFebruary : monthLength 2000 2 = 29 ∧ monthLength 2001 2 = 28 ∧ monthLength 2024 2 = 29 := by
  decide

/-- An AXLE entry at an INVALID speed: FFFE, and FFFF at NONE (R207, section 12.9). -/
theorem test_invalidSpeedInAnAxleEntry :
    let e (v : AxleSpeed) : List Byte := TraceEntry.bytes ⟨.axle .n6 .sliding .unsensed none v, 0x01020304⟩
    e .invalid = [5, 6, 1, 3, 0xFF, 0xFF, 0xFE, 0xFF, 0, 0, 0, 0, 4, 3, 2, 1] ∧
      slice 6 2 (e .none) = [0xFF, 0xFF] ∧ slice 6 2 (e (.speed 1600)) = [0x40, 0x06] := by decide +kernel

/-- The frames the part sends, before their CRCs (section 12.10). -/
theorem test_sentFrames :
    (dynCommandFrame 7 ⟨1, 2, 3, 4, 5, 150⟩).take 10 = [0x7E, 0x11, 7, 6, 1, 2, 3, 4, 5, 150] ∧
      (releaseRequestFrame 7).take 4 = [0x7E, 0x12, 7, 0] ∧ (resumeRequestFrame 255).take 4 = [0x7E, 0x13, 255, 0] ∧
      (airCommandFrame 7 ⟨300, 600⟩).take 8 = [0x7E, 0x31, 7, 4, 0x2C, 0x01, 0x58, 0x02] := by decide +kernel

/-! ### Small states -/

/-- A part out of both resets. -/
def running : State := { State.reset with inputs := ⟨false, false, false⟩ }

/-- A transaction held at the processor port. -/
def holding (t : Transaction) (c : TxClass) (reload : Bool) : State :=
  { running with path := { running.path with held := some ⟨t, c, reload, none⟩ } }

/-- A held transaction whose burst is on the memory-side port. -/
def passing (t : Transaction) (c : TxClass) (reload : Bool) : State :=
  { holding t c reload with arb := { running.arb with port := some (.pass t) } }

/-- A STORE burst on the memory-side port. -/
def storing (b : StoreBurst) (s : State) : State := { s with arb := { s.arb with port := some (.store b) } }

/-- A STORE burst of a part, with the entries it writes. -/
def burstOf (p : Part) (sets : List (Nat × SlotEntry)) : StoreBurst := ⟨p, true, .read 0 1, sets, false⟩

/-- A LOAD burst on the memory-side port. -/
def loading (k : LoadKind) (s : State) : State :=
  { s with arb := { s.arb with port := some (.load ⟨k, .read 0 2, false⟩) } }

/-- A directive in the slot that awaits its answer, with tag 7. -/
def directed (c : DirectiveCode) (args : List Byte) (k : Option KeyName) (key : BitVec 64) : Slot :=
  ⟨c, 7, args, k, key, true⟩

def inSlot (x : Slot) (s : State) : State := { s with decoder := { s.decoder with slot := some x } }

/-- A store that is READY, its entries all one. -/
def storeReady (e : SlotEntry) (s : State) : State :=
  { s with recorder := { s.recorder with store := .ready, image := List.replicate 64 e } }

def emptyEntry : SlotEntry := ⟨.empty, 0, 0, false⟩

def closedEntry : SlotEntry := ⟨.closed, 3, 1, false⟩

def someCause : Cause := ⟨.software 9, .operator, 0, .first, false⟩

/-- An open incident in a recorder state. -/
def someIncident : Incident where
  number := 1
  slot := 0
  first := someCause
  openingTime := 0
  causes := [someCause]
  further := 0
  cls := .operator
  post := []
  window := .running 5
  truncated := false
  openingCls := .operator
  retained := false
  pre := []
  snapshot := []
  closingMark := .normal
  closingTime := 0

def incidentIn (x : RecorderState) (i : Incident) (s : State) : State :=
  { s with recorder := { s.recorder with st := x, incident := some i, lifetime := 1 } }

/-- Fields of an accepted demand record. -/
def someFields (m : DemandMode) : DemandFields := ⟨m, 0, ⟨50, 60⟩, .blended, 0⟩

def lastRecord : DemandRecord := ⟨9, someFields .service⟩

/-- The demand supervisor in a state, with a last accepted record and its timers as the state has them. -/
def demandIn (x : DemandState) (s : State) : State :=
  let d := { s.demand with
    last := some lastRecord
    held := some ⟨50, 60⟩
    freshness := if x = DemandState.live then .running 5 else .stopped
    grace := if x = DemandState.stale then .running 5 else .stopped
    penaltyLatch := x == DemandState.penalty
    emergencyLatch := x == DemandState.emergency }
  { s with demand := d.enter x }

def standingStill (s : State) : State := { s with speed := { s.speed with standstill := .confirmed } }

/-- A window table with each kind, for anchor address 8000. -/
def someWindows : List Window :=
  [⟨.demand, 0x1000, 4096⟩, ⟨.directive, 0x2000, 4096⟩, ⟨.served, 0x3000, 4096⟩, ⟨.guarded, 0x400000, 0x21000⟩,
    ⟨.watch, 0x5000, 4096⟩, ⟨.unused, 0, 0⟩, ⟨.unused, 0, 0⟩, ⟨.unused, 0, 0⟩]

/-- An ACTIVE path with that table. -/
def activePath : State :=
  { running with
    path := ⟨.active, some someWindows, none⟩
    loader := { running.loader with st := .ready, anchor := 0x8000 } }

/-- Trigger line 1 with a configuration and a state. -/
def lineAt (c : LineConfig) (v : LineState) : State :=
  { running with
    params := { running.params with lines := { running.params.lines with l1 := c } }
    lines := { running.lines with l1 := v } }

/-- A DYN_REPORT's data at one grid temperature. -/
def reportAt (t : Nat) : DynData := ⟨Six.all 100, Six.all 40, ⟨t, t⟩, .underControl⟩

/-- A part that brakes dynamically, its grids in a state at a temperature. -/
def brakingAt (g : GridState) (t : Nat) : State :=
  let s := demandIn .live running
  { s with
    traction := { s.traction with st := .active, last := some (reportAt t) }
    blend := { s.blend with grid := ⟨g, g⟩ }
    speed := { s.speed with link := .active, reference := some 500 }
    slide := { s.slide with axles := Six.all .adhering } }

/-! ### Small records -/

/-- The beats of a whole record of bytes, each written full. -/
def fullBeats (n : Nat) (bs : List Byte) : List WriteBeat := (toBeats n bs).map full

/-- A directive record of a code, with an argument byte and a key name. -/
def directiveRecord (code arg keyName : Nat) : List Byte :=
  let front := padTo 28 (byte1 code ++ byte2 7 ++ padTo 13 (byte1 arg) ++ byte1 keyName)
  front ++ byte4 (crc32 front)

/-- A demand record of a sequence and a mode, without effort. -/
def demandBytes (sequence mode : Nat) : List Byte :=
  let front := padTo 60 (byte2 sequence ++ byte1 mode)
  front ++ byte4 (crc32 front)

/-- The same as the supervisor holds it, whole. -/
def completed (bs : List Byte) : CompletedRecord := ⟨toBeats 8 bs, List.replicate 7 true, false, 380⟩

def windowBytes (w : Window) (kind : Nat) : List Byte := padTo 16 (padTo 4 (byte1 kind) ++ byte4 w.base ++ byte4 w.size)

/-- Fields 9 to 69 at their defaults, with the values that the tests change: Pmax, the recovery fraction and N. -/
def parameterBytes (pmax fraction slots : Nat) : List Byte :=
  byte2 200 ++ byte2 500 ++ [3, 40, 40] ++ byte2 pmax ++ byte2 300 ++ byte2 450 ++ byte2 150 ++ byte2 50 ++
    [0, BitVec.ofNat 8 fraction] ++ byte2 560 ++ byte2 640 ++ byte2 480 ++ [25, 15, 5, 10] ++ byte2 150 ++
    [30, 30, 15, 8] ++ byte2 500 ++ byte2 300 ++ byte2 600 ++ [60] ++ byte2 4000 ++ [20, 3, 2] ++ byte2 50 ++
    byte2 2000 ++ byte2 250 ++ [20] ++ byte2 3000 ++ [16, 10, 10, 5, 0] ++ byte2 slots ++ [1, 0, 4] ++
    [0, 2, 0, 2, 0, 0, 2, 0, 2, 0, 0, 2, 0, 2, 0] ++ byte2 0 ++ [15, 0, 0]

/-- A configuration record with a version, a demand window base, and those values. -/
def configRecord (version base pmax fraction slots : Nat) : List Byte :=
  let ws := windowBytes ⟨.demand, base, 4096⟩ 1 ++
    ((someWindows.drop 1).zip [2, 3, 4, 5, 0, 0, 0]).flatMap fun p => windowBytes p.1 p.2
  let front := padTo 511 (padTo 16 (byte2 version) ++ ws ++ parameterBytes pmax fraction slots)
  front ++ byte1 (checksumOf front)

def goodRecord : List Byte := configRecord 1 0x1000 380 50 64

/-- An anchor block's first two beats. -/
def anchorBytes (addr : Nat) : List Byte :=
  let front := byte4 0x41535431 ++ byte4 addr
  padTo 16 (front ++ byte1 (checksumOf front))

theorem test_theDefaultRecordPasses : configFailure 0x8000 goodRecord = none := by decide +kernel

theorem test_theDefaultRecordHoldsTheDefaults :
    parseParams goodRecord = defaultParams ∧ parseWindows goodRecord = someWindows := by decide +kernel

theorem test_theAnchorBlockIsGood : anchorGood (anchorBytes 0x9000) = true := by decide +kernel

/-! ### What meets the hypotheses of the statements: the machine and the path -/

theorem witness_StepRunsTheFrontCommand :
    ({ running with pending := [.freeze] } : State).pending = .freeze :: [] ∧ running.pending = [] := by decide

theorem witness_EveryCommandKeepsItsFrame : ∃ t, exec .freeze running = .next t := ⟨_, rfl⟩

theorem witness_NothingHappensWithoutItsEvent :
    running.demand.inbox = [] ∧ running.demand.freshness = .stopped ∧ running.speed.sensor = .stopped ∧
      running.slide.recovery.get .n6 = .stopped ∧ running.slide.release.get .b = .stopped ∧
      running.traction.list = [] ∧ running.air.phaseTimer = .stopped ∧ (running.lines.get .l3).debounce = .stopped ∧
      running.recorder.incident = none ∧ running.loader.requests = 0 ∧ running.loader.checked = false ∧
      (Instr.freeze, DirectiveCode.freeze) ∈ directiveCommands ∧ running.awaiting .freeze = none ∧
      running.decoder.aborts = [] ∧ running.awaiting .abortAirPathTest = none := by decide +kernel

/-- A write that passes and a served read, on a free port and on one in use. -/
theorem witness_AcceptedTransactionIsHeldAndPassed :
    activePath.accepts (.write 0x9000 [full 1]) = true ∧
      (activePath.classOf (.write 0x9000 [full 1])).passes true = true ∧ activePath.arb.port = none ∧
      activePath.arb.load = none ∧ activePath.arb.store = none ∧ activePath.accepts (.read 0x3000 1) = true ∧
      running.path.st = .transparent ∧ running.accepts (.read 0xFFFFFFF8 2) = true ∧
      (loading .result running).arb.port.isSome = true := by decide +kernel

/-- The reload word in the first beat and in the second, with the four enables; an enable missing, another value, the
next word, a read and the core reset line; and the image of a served read. -/
theorem witness_ReloadWritesAndSnapshots :
    let w : List Transaction := [.write 0x8018 [⟨0x4C, 0x0F⟩], .write 0x8010 [full 0, ⟨0x100000004C, 0xFF⟩]]
    let no : List Transaction := [.write 0x8018 [⟨0x4C, 0x07⟩], .write 0x8018 [full 0x4D], .write 0x8020 [full 0x4C],
      .read 0x8018 1]
    let core : State := { activePath with inputs := ⟨false, true, false⟩ }
    (∀ x ∈ w, activePath.classOf x = .anchor ∧ activePath.watchedReload .anchor x = true ∧
      core.classOf x = .transparent ∧ core.watchedReload .transparent x = false) ∧
      (∀ x ∈ no, activePath.watchedReload .anchor x = false) ∧ activePath.classOf (.read 0x3000 1) = .served 0 ∧
      activePath.classOf (.write 0x3FF8 [full 0]) = .served 0xFF8 ∧ txnIsWrite (.read 0x3000 1) = false := by
  decide +kernel

/-- Beats that all have a property, from the list's own test: a quantifier over addresses would be decided over all of
them. -/
theorem beats_all {l : List Addr} {p : Addr → Bool} {b : Bool} (h : (l.all fun a => p a == b) = true) :
    ∀ a ∈ l, p a = b := fun a m => beq_iff_eq.mp (List.all_eq_true.mp h a m)

theorem beats_any {l : List Addr} {p : Addr → Bool} {b : Bool} (h : (l.any fun a => p a == b) = true) :
    ∃ a ∈ l, p a = b :=
  let ⟨a, m, e⟩ := List.any_eq_true.mp h
  ⟨a, m, beq_iff_eq.mp e⟩

theorem windows_all {ws : List Window} {q : Window → Prop} {f : Window → Bool} (h : ws.all f = true)
    (k : ∀ w, f w = true → q w) : ∀ w ∈ ws, q w := fun w m => k w (List.all_eq_true.mp h w m)

/-- The last beat of a window, a beat beyond it, and the anchor block's last beat and the next. -/
theorem witness_TransactionClassesFollowTheWindows :
    (someWindows.Pairwise fun v w => v.overlaps w = false) ∧
      (someWindows[2]? = some ⟨.served, 0x3000, 4096⟩ ∧
        ∀ a ∈ beatAddrs (.read 0x3FF8 1), Window.holds ⟨.served, 0x3000, 4096⟩ a = true) ∧
      ((∃ a ∈ beatAddrs (.read 0x3FF8 2), Window.holds ⟨.served, 0x3000, 4096⟩ a = true) ∧
        ∀ w ∈ someWindows, ∃ a ∈ beatAddrs (.read 0x3FF8 2), w.holds a = false) ∧
      ((∀ w ∈ someWindows, ∀ a ∈ beatAddrs (.read 0x80F8 2), w.holds a = false) ∧
        ∃ a ∈ beatAddrs (.read 0x80F8 2), inAnchor 0x8000 a = true) ∧
      (∀ w ∈ someWindows, ∀ a ∈ beatAddrs (.read 0x8100 1), w.holds a = false) ∧
        ∀ a ∈ beatAddrs (.read 0x8100 1), inAnchor 0x8000 a = false :=
  ⟨by decide, ⟨by decide, beats_all (by decide)⟩, ⟨beats_any (by decide), windows_all (by decide) fun _ => beats_any⟩,
    ⟨windows_all (by decide) fun _ => beats_all, beats_any (by decide)⟩,
    windows_all (by decide) fun _ => beats_all, beats_all (by decide)⟩

/-- A write of the guarded window's last beat and a read of the served window's first. -/
theorem witness_GuardedAndServedWindowsNeverPass :
    (activePath.path.st = .active ∧ activePath.path.windows = some someWindows ∧
      activePath.accepts (.write 0x420FF8 [full 1]) = true ∧ activePath.accepts (.read 0x3000 1) = true ∧
      activePath.inputs.coreReset = false ∧ activePath.arb.port = none ∧ activePath.arb.pass = none ∧
      (⟨.guarded, 0x400000, 0x21000⟩ : Window) ∈ someWindows ∧ (⟨.served, 0x3000, 4096⟩ : Window) ∈ someWindows) ∧
      (∃ a ∈ beatAddrs (.write 0x420FF8 [full 1]), Window.holds ⟨.guarded, 0x400000, 0x21000⟩ a = true) ∧
      ∃ a ∈ beatAddrs (.read 0x3000 1), Window.holds ⟨.served, 0x3000, 4096⟩ a = true :=
  ⟨by decide +kernel, beats_any (by decide), beats_any (by decide)⟩

/-- A served read, and the two sides of the image's end. -/
theorem witness_ServedReadAnswersFromTheImage :
    ((holding (.read 0x33F8 2) (.served 1016) false).path.held.map Held.cls) = some (.served 1016) ∧
      txnIsWrite (.read 0x33F8 2) = false ∧ (0 < 2 ∧ 1016 + 8 * 0 + 8 ≤ 1024) ∧ (1 < 2 ∧ 1024 ≤ 1016 + 8 * 1) ∧
      (zeros 1024).length = 1024 := by decide +kernel

theorem witness_StoppedTransactionsAreReported :
    ((holding (.write 0x400000 [full 1]) .guarded false).path.held.map Held.cls = some .guarded ∧
      (holding (.write 0x400000 [full 1]) .guarded false).anyReset = false) ∧
      (holding (.write 0x3000 [full 1]) (.served 0) false).path.held.map (fun h => h.cls.isServed) = some true ∧
      (holding (.read 0x3FF8 2) .straddle false).path.held.map Held.cls = some .straddle := by decide

theorem opens_storeReady : Opens (storeReady emptyEntry running) := ⟨by decide, by decide, by decide⟩

/-- The trigger of a stopped write in IDLE with and without a slot, in ERASING, and where it is dropped: with an open
incident and with a pending trigger. -/
theorem witness_PathViolationTriggers :
    let p : PendingTrigger := ⟨someCause, [someCause], 0, .operator⟩
    let erasing : State := { running with recorder := { running.recorder with st := .erasing } }
    let s := holding (.write 0x400000 [full 1]) .guarded false
    Opens (storeReady emptyEntry s) ∧ ¬Opens s ∧ (s.recorder.st = .idle ∧ s.recorder.waiting = none ∧
      s.anyReset = false ∧ erasing.recorder.st = .erasing ∧ erasing.recorder.waiting = none ∧
      (incidentIn .capturing someIncident running).recorder.st ≠ .idle ∧
      (incidentIn .capturing someIncident running).recorder.st ≠ .erasing ∧
      ({ erasing with recorder := { erasing.recorder with waiting := some p } } : State).recorder.waiting ≠ none) :=
  ⟨⟨by decide, by decide, by decide⟩, fun h => absurd h.1 (by decide), by decide⟩

/-- A write with a reload request, a read, and a write answered under the core reset line. -/
theorem witness_PassResponseIsReturned :
    let w : Transaction := .write 0x8018 [full 0x4C]
    let r : Transaction := .read 0x9000 1
    let s := passing w .anchor true
    (s.arb.port = some (.pass w) ∧ s.path.held = some ⟨w, .anchor, true, none⟩ ∧ txnIsWrite w = true ∧
      s.inputs.coreReset = false) ∧
      ((passing r .outside false).arb.port = some (.pass r) ∧ txnIsWrite r = false) ∧
      ({ s with inputs := ⟨false, true, false⟩ } : State).inputs.coreReset = true := by decide

/-- A write to a watch window with half of its bytes enabled, with watch tracing off and on; the sample's beat has the
other bytes as zero. -/
theorem witness_WatchWritesAreSampled :
    let w : Transaction := .write 0x5FF8 [⟨0x1122334455667788, 0x0F⟩]
    let s := passing w (.watch 4 0xFF8) false
    let on : State := { s with params := { s.params with watchTracing := true } }
    s.path.held.map Held.cls = some (.watch 4 0xFF8) ∧ activePath.classOf w = .watch 4 0xFF8 ∧ s.anyReset = false ∧
      s.params.watchTracing = false ∧ on.params.watchTracing = true ∧
      (match exec (.passResponse .ok []) on with
        | .next t => t.recorder.ring
        | _ => []) = [⟨.watch 4 0xFF8 0x55667788, 0⟩] := by decide +kernel

theorem witness_DemandWriteCompletesARecord :
    let beats := fullBeats 8 (demandBytes 10 2)
    let s := passing (.write 0x1000 beats) (.demand 0) false
    s.arb.port = some (.pass (.write 0x1000 beats)) ∧
      s.path.held = some ⟨.write 0x1000 beats, .demand 0, false, none⟩ ∧ s.inputs.coreReset = false ∧
      beats.length = 8 ∧ (∀ b ∈ beats, b.enables = 0xFF#8) ∧ s.demand.asm.beats.length = 8 ∧
      s.demand.asm.present.length = 7 := by decide +kernel

/-- A write that starts at the last beat and goes one beyond it, with the last beat full, partial and full after all
seven others: a record with beats missing is TORN, a partial beat completes none, and a spread record is whole. -/
theorem witness_DemandBeatsAreTakenOneByOne :
    let beats := fullBeats 8 (demandBytes 10 2)
    let last (e : BitVec 8) : List WriteBeat := [⟨(beats.getLast?.map WriteBeat.data).getD 0, e⟩, full 0]
    let judged (s : State) : List (DemandRecord ⊕ RefusalReason) := s.demand.inbox.map CompletedRecord.judge
    let fold (bs : List WriteBeat) (off : Nat) (s : State) : State :=
      (bs.zipIdx (off / 8)).foldl (fun u x => takeDemandBeat x.2 x.1 u) s
    judged (fold (last 0xFF) 56 running) = [.inr .torn] ∧ judged (fold (last 0x7F) 56 running) = [] ∧
      (fold (last 0x7F) 56 running).demand.asm.torn = true ∧
      judged (fold (last 0xFF) 56 (fold (beats.take 7) 0 running)) =
        [.inl ⟨10, ⟨.service, 0, ⟨0, 0⟩, .blended, 0⟩⟩] := by decide +kernel

/-- A write of a directive record on the port. -/
def directiveWrite (bs : List Byte) : State := passing (.write 0x2000 (fullBeats 4 bs)) (.directive 0) false

/-- The record as the decoder reads it from the beats. -/
def readBack (bs : List Byte) : DirectiveRecord := directiveOfBytes (beatsBytes ((fullBeats 4 bs).map WriteBeat.data))

theorem witness_DirectiveWriteIsCheckedInOrder :
    let bs := directiveRecord 0x05 1 0
    let s := directiveWrite bs
    s.arb.port = some (.pass (.write 0x2000 (fullBeats 4 bs))) ∧
      s.path.held = some ⟨.write 0x2000 (fullBeats 4 bs), .directive 0, false, none⟩ ∧ s.inputs.coreReset = false ∧
      (fullBeats 4 bs).length = 4 ∧ (∀ b ∈ fullBeats 4 bs, b.enables = 0xFF#8) ∧ s.decoder.asm.beats.length = 4 ∧
      s.decoder.asm.present.length = 3 := by decide +kernel

/-- Each outcome of the checks: CHECK, UNKNOWN below and above the codes, ARGUMENT on each side of the lines, BUSY, the
slot taken, and an abort beside the slot. -/
theorem witness_DirectiveChecks :
    (readBack (zeros 28 ++ [1, 0, 0, 0])).crc ≠ crc32 (readBack (zeros 28 ++ [1, 0, 0, 0])).covered ∧
      (∀ c ∈ [0x00, 0x14], (readBack (directiveRecord c 0 0)).crc = crc32 (readBack (directiveRecord c 0 0)).covered ∧
        DirectiveCode.ofCode (readBack (directiveRecord c 0 0)).code = none) ∧
      (∀ n ∈ [0, 4], (readBack (directiveRecord 0x04 n 0)).argumentsGood running .armTriggerLine = false) ∧
      (readBack (directiveRecord 0x04 3 0)).argumentsGood running .armTriggerLine = true ∧
      (inSlot (directed .freeze [] none 0) running).slotAdmits .armTriggerLine = false ∧
      running.slotAdmits .armTriggerLine = true ∧ running.decoder.slot = none ∧
      (inSlot (directed .testAirPath [] none 0) running).slotAdmits .abortAirPathTest = true := by decide +kernel

/-- A record spread over two writes, one with its first beat missing, and one with a partial last beat. -/
theorem witness_DirectiveBeatsAreTakenOneByOne :
    let beats := fullBeats 4 (directiveRecord 0x0C 0 0)
    let fold (bs : List WriteBeat) (off : Nat) (s : State) : State :=
      (bs.zipIdx (off / 8)).foldl (fun u x => takeDirectiveBeat x.2 x.1 u) s
    ((fold (beats.drop 2 ++ [full 0]) 16 (fold (beats.take 2) 0 running)).decoder.slot.map Slot.code) = some .freeze ∧
      (fold (beats.drop 1) 8 running).decoder.last = ⟨0, 0, .check⟩ ∧
      (fold [⟨0, 0xFE⟩] 24 running).decoder.asm.torn = true ∧ (fold [⟨0, 0xFE⟩] 24 running).decoder.last.code = 0 ∧
      (fold [⟨0, 0xFE⟩] 24 running).decoder.last.result = .none := by decide +kernel

/-- Arguments on each side of each range. -/
theorem witness_DirectiveArguments :
    let good (c : DirectiveCode) (args : List Byte) (key : Nat) : Bool :=
      DirectiveRecord.argumentsGood running ⟨c.code, 7, padTo 13 args, key, 0, 0, []⟩ c
    let time (y mo d h mi sec : Nat) : List Byte := byte2 y ++ byte1 mo ++ byte1 d ++ byte1 h ++ byte1 mi ++ byte1 sec
    (∀ k ∈ [1, 2], good .freeze [] 0 = true ∧ good .setKey [] k = true) ∧ (∀ k ∈ [0, 3], good .setKey [] k = false) ∧
      good .acknowledgeFlags (byte2 0x3FFF) 0 = true ∧ good .acknowledgeFlags (byte2 0x4000) 0 = false ∧
      good .setIndication [1] 0 = true ∧ good .setIndication [2] 0 = false ∧
      (∀ t ∈ [time 2000 1 1 0 0 0, time 2099 12 31 23 59 60, time 2096 2 29 0 0 0], good .setTime t 0 = true) ∧
      (∀ t ∈ [time 1999 1 1 0 0 0, time 2100 1 1 0 0 0, time 2000 0 1 0 0 0, time 2000 13 1 0 0 0, time 2000 1 0 0 0 0,
        time 2000 4 31 0 0 0, time 2001 2 29 0 0 0, time 2000 1 1 24 0 0, time 2000 1 1 0 60 0, time 2000 1 1 0 0 61],
        good .setTime t 0 = false) ∧
      good .retainIncident (byte2 63) 0 = true ∧ good .retainIncident (byte2 64) 0 = false ∧
      (∀ n ∈ [1, 2], good .clearSlideFault [n] 0 = true) ∧ (∀ n ∈ [0, 3], good .clearSlideFault [n] 0 = false) := by
  decide +kernel

/-- Both claims waiting, with each wait count below and at the limit, under each priority and under the warning. -/
def claiming (storeHigh : Bool) (storeWait passWait : Nat) : State :=
  { running with
    params := { running.params with storeHigh := storeHigh }
    arb := ⟨none, some (.read 0 1), some (burstOf .headerOnly []), none, storeWait, passWait⟩ }

theorem witness_ArbiterChoosesByPriority :
    (∀ h ∈ [true, false], ∀ n ∈ [3, 4], (claiming h n n).arb.port = none ∧ (claiming h n n).arb.load = none ∧
      (claiming h n n).params.waitLimit = 4 ∧ (claiming h n n).arb.store = some (burstOf .headerOnly []) ∧
      (claiming h n n).arb.pass = some (.read 0 1)) ∧
      running.arb.pass = none ∧ running.arb.store = none ∧ running.arb.load = none := by decide

/-- A grant of each kind with a claim of the other side waiting, under each priority and under the warning, and with the
count at its top. -/
theorem witness_GrantsCountTheWaitingSide :
    let warned : State := { claiming false 1 1 with inputs := ⟨false, false, true⟩ }
    let loaded : State := { claiming false 1 1 with
      arb := { (claiming false 1 1).arb with load := some ⟨.anchor, .read 0 2, false⟩ } }
    ((arbitrate (claiming false 1 1)).arb.port = some (.pass (.read 0 1)) ∧
      (arbitrate (claiming false 1 1)).arb.storeWait = 2) ∧
      ((arbitrate (claiming true 1 1)).arb.port = some (.store (burstOf .headerOnly [])) ∧
        (arbitrate (claiming true 1 1)).arb.passWait = 2) ∧
      ((arbitrate warned).arb.port = some (.store (burstOf .headerOnly [])) ∧ (arbitrate warned).arb.passWait = 1) ∧
      (arbitrate loaded).arb.port = some (.load ⟨.anchor, .read 0 2, false⟩) ∧ (arbitrate loaded).arb.storeWait = 1 ∧
      satAdd 32 31 = 32 ∧ satAdd 32 32 = 32 := by decide +kernel

/-! ### The resets -/

theorem witness_PowerOnResetGivesTheInitialState : activePath.inputs.powerOnReset = false := by decide

theorem witness_CoreResetKeepsTheBrakeAndStopsTheRest :
    (demandIn .emergency activePath).inputs = ⟨false, false, false⟩ ∧
      (demandIn .emergency activePath).demand.emergencyLatch = true ∧
      (demandIn .penalty activePath).demand.penaltyLatch = true := by decide

/-- The part in a reset, with a directive abandoned by it. -/
def inReset (powerOn core : Bool) : State :=
  { State.reset with
    inputs := ⟨powerOn, core, false⟩
    decoder := { State.reset.decoder with abandoned := some (7, .freeze) } }

theorem atRest_inReset (p c : Bool) : AtRest (inReset p c) where
  flags := rfl
  ring := rfl
  path := ⟨rfl, rfl⟩
  loader := ⟨rfl, rfl, rfl, rfl⟩
  claims := ⟨rfl, rfl⟩
  loadPort := fun b (h : none = some (PortBurst.load b)) => nomatch h
  storePort := fun b (h : none = some (PortBurst.store b)) => nomatch h
  directives := ⟨rfl, rfl⟩
  inbox := rfl
  timers := ⟨rfl, rfl, fun l => by cases l <;> rfl⟩
  units := ⟨rfl, rfl, rfl, none, rfl⟩
  recorder := ⟨rfl, rfl, rfl, rfl, rfl, rfl, rfl⟩

theorem witness_ReleaseBeginsTheFirstLoad :
    AtRest (inReset true false) ∧ AtRest (inReset false true) ∧ (inReset true false).arb.port = none ∧
      (inReset false true).decoder.abandoned = some (7, .freeze) ∧ (inReset true true).inputs.powerOnReset = true ∧
      (inReset true true).inputs.coreReset = true :=
  ⟨atRest_inReset _ _, atRest_inReset _ _, rfl, rfl, rfl, rfl⟩

/-! ### The loader -/

theorem witness_AnchorResponseBringsTheConfigurationRead :
    LoadOnPort (loading .anchor running) ⟨.anchor, .read 0 2, false⟩ ∧
      LoadOnPort (loading .result running) ⟨.result, .read 0 2, false⟩ ∧
      (loading .anchor running).loader.queue = [] ∧ (loading .anchor running).arb.load = none :=
  ⟨⟨rfl, rfl⟩, ⟨rfl, rfl⟩, rfl, rfl⟩

theorem witness_AnchorBlocks :
    let good := beatsBytes (toBeats 2 (anchorBytes 0x9000))
    let odd := beatsBytes (toBeats 2 (anchorBytes 0x9004))
    (field 0 4 good = 0x41535431 ∧ checksumHolds (slice 0 16 good) = true ∧ field 4 4 good % 8 = 0) ∧
      field 4 4 odd % 8 ≠ 0 ∧ field 0 4 (zeros 16) ≠ 0x41535431 := by decide +kernel

/-- A load that has gathered all but the last burst of a record. -/
def gathered (bs : List Byte) : State :=
  let s := loading .config running
  { s with loader := { s.loader with st := .readingConfig, anchor := 0x8000, candidate := toBeats 56 bs } }

theorem witness_ConfigurationBurstsAreGatheredAndChecked :
    LoadOnPort (gathered goodRecord) ⟨.config, .read 0 2, false⟩ := ⟨rfl, rfl⟩

/-- The last burst makes the candidate whole; one burst earlier it is not. -/
theorem witness_CandidateLengths :
    ((gathered goodRecord).loader.candidate ++ (toBeats 64 goodRecord).drop 56).length = 64 ∧
      ((toBeats 64 goodRecord).drop 56).length = 8 ∧ (toBeats 48 goodRecord ++ toBeats 8 goodRecord).length < 64 := by
  decide +kernel

/-- A record for each check that can fail: checksum, version, range (field 20), windows (entry 0), order (check 3). -/
theorem witness_CandidateChecks :
    checksumHolds (slice 0 512 (0 :: goodRecord.drop 1)) = false ∧
      configFailure 0x8000 (configRecord 2 0x1000 380 50 64) = some (.configVersion, 0) ∧
      configFailure 0x8000 (configRecord 1 0x1000 380 24 64) = some (.configRange, 20) ∧
      configFailure 0x8000 (configRecord 1 0x8000 380 50 64) = some (.configWindows, 0) ∧
      configFailure 0x8000 (configRecord 1 0x1000 290 50 64) = some (.configOrder, 3) := by decide +kernel

/-- Bases and sizes where the window rules meet: one window more or less of a kind, a base off the page, the end of the
address space, the anchor block, the sizes, the store's room for N slots, and windows that touch. -/
theorem witness_WindowBreaks :
    let put (i : Nat) (w : Window) : Option Nat := firstWindowBreak 0x8000 64 (someWindows.set i w)
    put 0 ⟨.demand, 0x1000, 4096⟩ = none ∧ put 0 ⟨.unused, 0x1000, 4096⟩ = some 0 ∧
      put 4 ⟨.served, 0x5000, 4096⟩ = some 2 ∧ put 0 ⟨.demand, 0x1008, 4096⟩ = some 0 ∧
      put 4 ⟨.watch, 0xFFFFF000, 4096⟩ = none ∧ put 4 ⟨.watch, 0xFFFFF000, 8192⟩ = some 4 ∧
      put 4 ⟨.watch, 0x8000, 4096⟩ = some 4 ∧ put 4 ⟨.watch, 0x9000, 4096⟩ = none ∧
      put 0 ⟨.demand, 0x1000, 8192⟩ = some 0 ∧ put 4 ⟨.watch, 0x100000, 1048576⟩ = none ∧
      put 4 ⟨.watch, 0x100000, 1052672⟩ = some 4 ∧ put 3 ⟨.guarded, 0x400000, 0x20000⟩ = some 3 ∧
      put 4 ⟨.watch, 0x420000, 4096⟩ = some 4 ∧ put 4 ⟨.watch, 0x421000, 4096⟩ = none := by decide +kernel

/-- The default record holds each field within its bounds; and the first of the checks that fail. -/
theorem witness_FieldRanges :
    (∀ f ∈ numericFields, f.low ≤ field f.offset f.size goodRecord ∧ field f.offset f.size goodRecord ≤ f.high) ∧
      firstFailing [true, false, false] = some 2 ∧ firstFailing [true, true] = none ∧
      orderChecks defaultParams = [true, true, true, true, true] := by decide +kernel

/-- A checked candidate, of a load of an origin, under a table in use. -/
def checkedState (o : LoadOrigin) (bs : List Byte) (s : State) : State :=
  { s with loader := { s.loader with
    st := .checking, anchor := 0x8000, checked := true, origin := o, candidate := toBeats 64 bs } }

/-- A start, a refused reload, a reload that keeps the store, and one that changes N. -/
theorem witness_InstallPutsTheRecordInForce :
    let moved := configRecord 1 0x1000 380 50 32
    let still := standingStill activePath
    ((checkedState .start goodRecord running).loader.checked = true ∧
      (checkedState .start goodRecord running).path.held = none) ∧
      (checkedState .reload goodRecord activePath).reloadRefusal = some .moving ∧
      ((checkedState .reload goodRecord still).reloadRefusal = none ∧
        geometryDiffers still (parseWindows goodRecord) (parseParams goodRecord) = false) ∧
      geometryDiffers still (parseWindows moved) (parseParams moved) = true := by decide +kernel

/-- A line whose debounce the record changes and one that it keeps, ACTIVE and not. -/
theorem witness_InstalledLines :
    let s := checkedState .start goodRecord (lineAt ⟨false, .none, false, .serious, true⟩ ⟨true, .seen, false, .stopped⟩)
    let new := parseParams goodRecord
    s.anyReset = false ∧ (s.params.lines.get .l1).debounce ≠ (new.lines.get .l1).debounce ∧
      (s.params.lines.get .l2).debounce = (new.lines.get .l2).debounce ∧
      (new.lines.get .l1).debounce.period = some 16 := by decide +kernel

/-- A reload with the traction channel ACTIVE at temperatures where the grid's ranges meet, a truck in FAULT and a held
value, and one with the channel not ACTIVE. -/
theorem witness_ReloadedBrake :
    let s (t : Nat) : State := checkedState .reload goodRecord { standingStill activePath with
      traction := (brakingAt .tripped t).traction
      blend := { (brakingAt .tripped t).blend with held := ⟨some 5, none⟩ }
      slide := { running.slide with trucks := ⟨.fault, .hold⟩ } }
    (∀ t ∈ [559, 560, 639, 640], (s t).loader.origin = .reload ∧ (s t).reloadRefusal = none ∧ (s t).anyReset = false ∧
      (s t).traction.st = .active ∧ (s t).gridTemp .b = t) ∧
      (checkedState .reload goodRecord (standingStill activePath)).traction.st ≠ .active ∧
      (parseParams goodRecord).derate = 560 ∧ (parseParams goodRecord).trip = 640 := by decide +kernel

def requested (x : LoaderState) (s : State) : State := { s with loader := { s.loader with st := x, requests := 1 } }

/-- Each ruling: the five refusals, a reload, a retry, and a state that ignores the request. -/
theorem witness_ReloadRequestIsRuledOn :
    let still := standingStill running
    (requested .ready running).loader.requests = 1 ∧ running.speed.standstill ≠ .confirmed ∧
      (demandIn .penalty still).demand.st = .penalty ∧
      (incidentIn .capturing someIncident still).recorder.st ≠ .idle ∧
      (inSlot (directed .freeze [] none 0) still).decoder.slot.isSome = true ∧
      (requested .ready still).reloadRefusal = none ∧
      (requested .ready { still with retention := { still.retention with frozen := true } }).reloadRefusal =
        some .frozen ∧
      (requested .fault still).loader.st = .fault ∧ (requested .scanning still).loader.st = .scanning := by decide

/-! ### The demand supervisor -/

/-- A completed record in the inbox, in a demand state with last sequence 9. -/
def inboxed (c : CompletedRecord) (x : DemandState) (n : Nat) : State :=
  let s := demandIn x running
  { s with demand := { s.demand with inbox := [c], failCount := n } }

/-- A refused record, one count below the limit of 3 and at it, in LIVE and without a last record. -/
theorem witness_RefusedRecordCountsTowardsAPenalty :
    (completed (zeros 64)).judge = .inr .check ∧
      ({ completed (demandBytes 10 2) with torn := true } : CompletedRecord).judge = .inr .torn ∧
      (inboxed (completed (zeros 64)) .live 1).demand.inbox = [completed (zeros 64)] ∧
      (inboxed (completed (zeros 64)) .live 1).params.failLimit = 3 ∧
      (inboxed (completed (zeros 64)) .live 2).demand.st = .live ∧
      (inboxed (completed (zeros 64)) .live 2).demand.last = some lastRecord ∧
      lastRecord.fields.independent = ⟨50, 60⟩ ∧ (inboxed (completed (zeros 64)) .live 255).demand.failCount ≤ 255 := by
  decide +kernel

/-- A refused record at the limit, in LIVE and STALE out of reset. -/
theorem witness_RefusedRecordAtTheLimit :
    ∀ x ∈ [DemandState.live, .stale], (inboxed (completed (zeros 64)) x 2).anyReset = false ∧
      (inboxed (completed (zeros 64)) x 2).demand.st = x ∧
      (inboxed (completed (zeros 64)) x 2).params.failLimit ≤ min 255 (2 + 1) := by decide +kernel

/-- Fields of a demand record at the ends of their ranges: the modes, the effort, a release with effort, the independent
demands against Pmax, the policy and the inhibit mask; and the sequence with and without its beat. -/
theorem witness_DemandFields :
    let bytes (mode policy effort a b inhibit : Nat) : List Byte :=
      byte2 10 ++ byte1 mode ++ byte1 policy ++ byte2 effort ++ byte2 a ++ byte2 b ++ byte1 inhibit
    (∀ m ∈ [0, 4], demandOfBytes 380 (bytes m 0 0 0 0 0) = .inr .mode) ∧
      demandOfBytes 380 (bytes 2 1 720 380 380 63) = .inl ⟨10, ⟨.service, 720, ⟨380, 380⟩, .airOnly, 63⟩⟩ ∧
      (∀ bs ∈ [bytes 2 0 721 0 0 0, bytes 1 0 1 0 0 0, bytes 2 0 0 381 0 0, bytes 2 0 0 0 381 0, bytes 2 2 0 0 0 0,
        bytes 2 0 0 0 0 64], demandOfBytes 380 bs = .inr .range) ∧
      (completed (demandBytes 10 2)).present[0]? = some true ∧ (completed (demandBytes 10 2)).sequenceFound = 10 ∧
      ({ completed (demandBytes 10 2) with present := [false] } : CompletedRecord).present[0]? ≠ some true := by
  decide +kernel

/-- A fresh and a duplicate record, RELEASE and EMERGENCY, in the demand states. -/
theorem witness_AcceptedRecordSetsTheDemand :
    (completed (demandBytes 10 1)).judge = .inl ⟨10, ⟨.release, 0, ⟨0, 0⟩, .blended, 0⟩⟩ ∧
      (completed (demandBytes 10 3)).judge = .inl ⟨10, ⟨.emergency, 0, ⟨0, 0⟩, .blended, 0⟩⟩ ∧
      (completed (demandBytes 9 2)).judge = .inl ⟨9, ⟨.service, 0, ⟨0, 0⟩, .blended, 0⟩⟩ ∧
      (∀ x ∈ [DemandState.noDemand, .live, .stale, .penalty, .emergency],
        (inboxed (completed (demandBytes 10 1)) x 0).demand.st = x) ∧ lastRecord.sequence = 9 := by decide +kernel

theorem witness_ExpiryOfTheDemandBringsThePenalty :
    (demandIn .live running).demand.last = some lastRecord ∧ (demandIn .live running).demand.st = .live ∧
      (demandIn .live running).demand.freshness.isRunning = true ∧ running.params.grace ≠ 0 ∧
      (demandIn .live { running with params := { running.params with grace := 0 } }).params.grace = 0 ∧
      (demandIn .stale running).demand.grace.isRunning = true := by decide

theorem witness_LatchesAreResetOnlyAtStandstill :
    let p := directed .resetPenalty [] none 0
    let e := directed .resetEmergency [] none 0
    let penalty := demandIn .penalty running
    let both : State := { demandIn .emergency running with
      demand := { (demandIn .emergency running).demand with penaltyLatch := true } }
    (Awaits (inSlot p (standingStill penalty)) .resetPenalty p ∧ penalty.demand.st = .penalty ∧
      penalty.speed.standstill ≠ .confirmed) ∧
      Awaits (inSlot e (standingStill both)) .resetEmergency e ∧ both.demand.st = .emergency ∧
      (demandIn .emergency running).demand.penaltyLatch = false :=
  ⟨⟨⟨rfl, rfl, rfl⟩, rfl, by decide⟩, ⟨rfl, rfl, rfl⟩, rfl, rfl⟩

/-! ### The blend unit -/

/-- Each grid state at the temperatures where the table's ranges meet. -/
theorem witness_GridMovesFollowTheTable :
    (∀ g ∈ [GridState.cool, .derated, .tripped], ∀ t ∈ [480, 481, 559, 560, 639, 640],
      (brakingAt g t).blend.grid.get .a = g ∧ (brakingAt g t).gridTemp .a = t) ∧ Truck.b ≠ .a := by decide

/-- The three axle states of an axle that is not zeroed, or slides. -/
theorem witness_RecoveringAxleHasAReducedTarget :
    let s := brakingAt .cool 100
    let r : State := { s with slide := { s.slide with axles := Six.all .recovering } }
    s.zeroed .n1 = false ∧ s.slide.axles.get .n1 = .adhering ∧ r.zeroed .n1 = false ∧
      r.slide.axles.get .n1 = .recovering ∧ r.params.recoveryFraction = 50 ∧
      ({ r with params := { r.params with recoveryFraction := 100 } } : State).zeroed .n1 = false ∧
      ({ s with slide := { s.slide with axles := Six.all .sliding } } : State).slide.axles.get .n1 = .sliding := by
  decide

theorem witness_RecomputeFollowsTheBlendRules :
    let s := brakingAt .derated 560
    (s.traction.last = some (reportAt 560) ∧ s.params.recoveryFraction ≤ 100 ∧ s.params.derate ≤ s.gridTemp .a) ∧
      running.zeroed .n1 = true ∧ running.traction.st ≠ .active ∧ s.traction.st = .active ∧
      (s.demand.st = .live ∧ 0 < s.params.gain.get .a) ∧ (demandIn .stale running).demand.st = .stale ∧
      (∀ x ∈ [DemandState.noDemand, .penalty, .emergency], (demandIn x running).demand.st = x) ∧
      ∀ x ∈ [TruckState.apply, .dump, .hold, .reapply, .fault],
        ({ s with slide := { s.slide with trucks := ⟨x, x⟩ } } : State).slide.trucks.get .b = x := by decide

/-- Axles that are not zeroed: in LIVE and in EMERGENCY with dynamic braking, with a DERATED grid at each end of the
derating and with a RECOVERING axle; and the converter in FAULT. -/
theorem witness_TargetsOfTheBlendRules :
    let e (s : State) : State := { s with
      demand := (demandIn .emergency running).demand, params := { s.params with emergencyDynamic := true } }
    let r : State := { brakingAt .derated 600 with slide := { running.slide with axles := Six.all .recovering } }
    let f : State := { brakingAt .cool 0 with
      traction := { (brakingAt .cool 0).traction with last := some { reportAt 0 with mode := .fault } } }
    (∀ t ∈ [560, 639, 640], (brakingAt .derated t).zeroed .n1 = false ∧ (e (brakingAt .derated t)).zeroed .n6 = false) ∧
      r.zeroed .n1 = false ∧ f.zeroed .n1 = false ∧ (e (brakingAt .cool 0)).demand.st = .emergency ∧
      (e (brakingAt .derated 600)).blendValues.targets.get .n1 = 50 ∧
      (e (brakingAt .derated 640)).blendValues.targets.get .n1 = 0 := by decide +kernel

/-! ### What meets the hypotheses of the statements: speed, slide and links -/

/-- A SPEED_SAMPLE frame. -/
def sampleFrame (n time : Nat) (v : Six Nat) : List Byte :=
  frameBytes 0x51 0 (byte2 n ++ byte2 time ++ v.toList.flatMap byte2)

/-- Bytes that are one frame, by its three conditions. -/
theorem oneFrame_of {bytes : List Byte}
    (h : bytes.head? = some 0x7E#8 ∧ 4 ≤ bytes.length ∧ bytes.length = 8 + field 3 1 bytes) : OneFrame bytes := h

/-- The speed unit after a sample with a last time and a reference. -/
def sampledAt (time reference : Option Nat) : State :=
  { running with speed := { running.speed with number := some 1, time := time, reference := reference } }

/-- A sample with a valid and an invalid axle at the ends of the range, and one with no valid axle. -/
theorem witness_SpeedSampleIsInstalled :
    let v : Six Nat := ⟨1600, 1601, 0, 0, 0, 0⟩
    OneFrame (sampleFrame 2 40 v) ∧ OneFrame (sampleFrame 2 40 (Six.all 65535)) ∧
      judgeFrame .speed (sampleFrame 2 40 v) = some (.speedSample 2 40 v) ∧
      judgeFrame .speed (sampleFrame 2 40 (Six.all 65535)) = some (.speedSample 2 40 (Six.all 65535)) ∧
      (sampledAt none none).anyReset = false ∧ (sampledAt none none).rx.speed = [] ∧
      (sampledAt none none).speed.number ≠ some 2 ∧
      (speedAfter 2 40 v (sampledAt none none)).reference = some 1600 ∧
      (speedAfter 2 40 v (sampledAt none none)).standstill = .moving ∧
      (speedAfter 2 40 (Six.all 4) (sampledAt none none)).standstill = .dwelling ∧
      (speedAfter 2 40 (Six.all 65535) (sampledAt none (some 9))).reference = some 9 :=
  ⟨oneFrame_of (by decide +kernel), oneFrame_of (by decide +kernel), by decide +kernel⟩

/-- The fastest axle; the intervals 0, 1, 1000 and 1001, and a reference on each side of each limit. -/
theorem witness_ReferenceKeepsItsLimits :
    let v : Six Nat := ⟨100, 90, 80, 1601, 0, 0⟩
    (∀ time ∈ [0, 1, 1000, 1001], judgeFrame .speed (sampleFrame 2 time v) = some (.speedSample 2 time v)) ∧
      (v.get .n1 ≤ 1600 ∧ ∀ y ∈ allAxles, v.get y ≤ 1600 → v.get y ≤ v.get .n1) ∧
      (sampledAt (some 0) (some 84)).params.rise * 1000 / 1000 = 15 ∧
      (sampledAt (some 0) (some 126)).params.deceleration * 1000 / 1000 = 25 ∧
      (∀ r ∈ [84, 85, 100, 125, 126], (speedAfter 2 1000 v (sampledAt (some 0) (some r))).reference =
        some (if r = 84 then 99 else if r = 126 then 101 else 100)) ∧
      (sampledAt (some 0) none).speed.reference = none ∧ (sampledAt none none).speed.time = none := by
  decide +kernel

theorem witness_SpeedTimersActAtExpiry :
    let lost : State := { running with speed := { running.speed with sensor := .running 5 } }
    let still : State := { running with speed := { running.speed with dwell := .running 5, standstill := .dwelling } }
    lost.speed.sensor.isRunning = true ∧ lost.anyReset = false ∧ still.speed.dwell.isRunning = true ∧
      still.speed.standstill = .dwelling := by decide

/-- An armed part at a reference of 50.0 km/h whose axles have a speed and a state, its trucks a state. -/
def slidingAt (v : Nat) (a : AxleState) (t : TruckState) : State :=
  let s := brakingAt .cool 100
  { s with
    speed := { s.speed with axles := Six.all (.speed v), slips := Six.all (some (500 - v)) }
    slide := { s.slide with armed := true, axles := Six.all a, trucks := ⟨t, t⟩, commanded := some ⟨100, 100⟩ } }

/-- Slips at slip on, below it, at slip off and below it, for each axle state; and trucks with and without a sliding
axle. -/
theorem witness_SlideMovesFollowTheTables :
    let e : SlideEvent := { SlideEvent.quiet with sample := true }
    (∀ v ∈ [470, 471, 485, 486], ∀ a ∈ [AxleState.adhering, .sliding, .recovering, .unsensed],
      (slidingAt v a .apply).slide.armed = true ∧ (slideNext e (slidingAt v a .apply)).armed = true ∧
        ((slidingAt v a .apply).speed.axles.get .n1).valid = true ∧
        (slidingAt v a .apply).speed.slips.get .n1 = some (500 - v) ∧
        (slidingAt v a .apply).speed.reference = some 500) ∧
      (∀ t ∈ [TruckState.apply, .dump, .hold, .reapply, .fault], ∀ a ∈ [AxleState.adhering, .sliding],
        (slideNext SlideEvent.quiet (slidingAt 400 a t)).armed = true ∧
          (slideNext SlideEvent.quiet (slidingAt 400 a t)).axles.get .n1 = a ∧
          (slidingAt 400 a t).slide.trucks.get .a = t) ∧
      SlideEvent.quiet.release ≠ some .a ∧ SlideEvent.quiet.confirmed = false := by decide +kernel

theorem witness_SlideTimersActAtExpiry :
    let run (s : State) : State := { s with slide := { s.slide with
      recovery := Six.all (.running 5), hold := ⟨.running 5, .running 5⟩, reapply := ⟨.running 5, .running 5⟩,
      release := ⟨.running 5, .running 5⟩ } }
    let h := run (slidingAt 500 .adhering .hold)
    ((run (slidingAt 500 .recovering .apply)).slide.recovery.get .n1).isRunning = true ∧
      (run (slidingAt 500 .recovering .apply)).slide.axles.get .n1 = .recovering ∧
      ((h.slide.hold.get .a).isRunning = true ∧ h.slide.trucks.get .a = .hold ∧
        (∀ x ∈ axlesOf .a, h.slide.axles.get x ≠ .sliding) ∧ h.speed.link = .active ∧
        h.speed.reference = some 500 ∧ h.params.armingFloor ≤ 500 ∧ h.slide.axles.get .n1 ≠ .unsensed) ∧
      (run (slidingAt 500 .adhering .reapply)).slide.trucks.get .a = .reapply ∧
      (∀ t ∈ [TruckState.dump, .hold, .reapply], (run (slidingAt 500 .adhering t)).slide.trucks.get .b = t) := by
  decide

theorem witness_SlideFaultIsClearedByDirective :
    (∀ x ∈ [(1, Truck.a), (2, Truck.b)],
      let d := directed .clearSlideFault [BitVec.ofNat 8 x.1] none 0
      (inSlot d (slidingAt 500 .adhering .fault)).awaiting .clearSlideFault = some d ∧
        field 0 1 d.args = truckCode x.2) ∧
      (slidingAt 500 .adhering .fault).slide.trucks.get .b = .fault ∧
      (slidingAt 500 .adhering .apply).slide.trucks.get .b ≠ .fault ∧
      Awaits (inSlot (directed .clearSlideFault [1] none 0) running) .clearSlideFault
        (directed .clearSlideFault [1] none 0) :=
  ⟨by decide, by decide, by decide, ⟨rfl, rfl, rfl⟩⟩

/-- Both channels ACTIVE with commands outstanding. -/
def outstanding (seqs : List Nat) : State :=
  let es := seqs.map fun n => Outstanding.mk n (.running 5)
  { running with
    traction := { running.traction with
      st := .active, list := es, keepalive := .running 5, hsTimer := .running 5, miss := 1 }
    air := { running.air with st := .active, list := es, keepalive := .running 5, miss := 1 } }

def dynFrame (echo : Nat) : List Byte :=
  frameBytes 0x21 0 (byte1 echo ++ List.replicate 12 100 ++ byte2 900 ++ byte2 0 ++ [0])

def airFrame (echo : Nat) : List Byte := frameBytes 0x41 0 (byte1 echo ++ byte2 600 ++ byte2 0)

/-- Replies to the newest command, to an older one and to none, on a list of two. -/
theorem witness_ReportsPairWithCommands :
    OneFrame (dynFrame 5) ∧ OneFrame (airFrame 5) ∧
      (judgeFrame .traction (dynFrame 5) =
        some (.dynReport 5 ⟨Six.all 100, Six.all 100, ⟨900, 0⟩, .underControl⟩) ∧
      judgeFrame .air (airFrame 5) = some (.airReport 5 ⟨600, 0⟩) ∧ (outstanding [4, 5]).rx.traction = [] ∧
      (outstanding [4, 5]).rx.air = [] ∧ (outstanding [4, 5]).anyReset = false ∧
      (outstanding [4, 5]).traction.st = .active ∧ (outstanding [4, 5]).air.st = .active ∧
      (outstanding [4, 5]).air.list = [] ++ ⟨4, .running 5⟩ :: [⟨5, .running 5⟩] ∧
      (outstanding [4, 5]).traction.list = [⟨4, .running 5⟩] ++ ⟨5, .running 5⟩ :: [] ∧
      ∀ e ∈ (outstanding [4, 5]).traction.list, e.sequence ≠ 6) :=
  ⟨oneFrame_of (by decide +kernel), oneFrame_of (by decide +kernel), by decide +kernel⟩

theorem calm_of {s : State} (a : ∀ x, s.slide.axles.get x = .adhering ∨ s.slide.axles.get x = .unsensed)
    (k : ∀ k, s.slide.trucks.get k = .apply ∨ s.slide.trucks.get k = .fault)
    (l : s.traction.list.length < 4 ∧ s.air.list.length < 4) : Calm s := ⟨a, k, l.1, l.2⟩

theorem calm_outstanding : Calm (outstanding [4, 5]) :=
  calm_of (fun x => by cases x <;> decide) (fun k => by cases k <;> decide) (by decide)

/-- A channel one good report short of the restore count of 2, and one more, in STARTING and LOST; and a resume. -/
theorem witness_ChannelsAreRestored :
    let at' (x : TractionState) (y : LinkState) (good : Nat) : State :=
      let s := outstanding [4, 5]
      { s with
        traction := { s.traction with st := x, good := good, hsKind := .resume, hsOrigin := .directive }
        air := { s.air with st := y, good := good } }
    Calm (outstanding [4, 5]) ∧ (∀ p ∈ [(TractionState.starting, LinkState.starting), (.lost, .lost)],
      ∀ good ∈ [0, 1], (at' p.1 p.2 good).traction.st = p.1 ∧ (at' p.1 p.2 good).air.st ≠ .active ∧
        (at' p.1 p.2 good).params.restoreCount = 2 ∧ (good = 1 ↔ 2 ≤ satAdd 255 good)) ∧
      (at' .resuming .active 0).traction.st = .resuming ∧ (at' .resuming .active 0).air.phase = .none ∧
      (inSlot (directed .resumeTraction [] none 0) (at' .resuming .active 0)).decoder.slot.map Slot.code =
        some .resumeTraction := ⟨calm_outstanding, by decide⟩

/-- A frame of a kind the link does not carry, with a ring of 47 and of 48 entries. -/
theorem witness_BadFramesAreDiscarded :
    OneFrame (airFrame 5) ∧ (judgeFrame .speed (airFrame 5) = none ∧ running.rx.get .speed = [] ∧
      ∀ n ∈ [47, 48], ({ running with recorder := { running.recorder with
        ring := List.replicate n ⟨.test .aApply .started, 0⟩ } } : State).recorder.ring.length = n) :=
  ⟨oneFrame_of (by decide +kernel), by decide +kernel⟩

/-- Lists of three and of four entries, with one miss of the three of the limit. -/
theorem witness_KeepaliveSendsTheCommand :
    ∀ l ∈ [[1, 2, 3], [1, 2, 3, 4]], (outstanding l).traction.keepalive.isRunning = true ∧
      (outstanding l).air.keepalive.isRunning = true ∧ (outstanding l).traction.list.length = l.length ∧
      (outstanding l).air.list.length = l.length ∧ satAdd 255 (outstanding l).traction.miss < 3 ∧
      (outstanding l).params.missLimit = 3 ∧ (outstanding l).air.source = .blend := by decide

/-- The second miss, and the third. -/
theorem witness_MissedRepliesLoseTheChannel :
    (∃ e ∈ (outstanding [7]).traction.list, e.sequence = (7 : Byte).toNat) ∧
      (∃ e ∈ (outstanding [7]).air.list, e.sequence = (7 : Byte).toNat) ∧ (outstanding [7]).traction.st = .active ∧
      (outstanding [7]).air.st ≠ .lost ∧ ¬(outstanding [7]).params.missLimit ≤ satAdd 255 1 ∧
      (outstanding [7]).params.missLimit ≤ satAdd 255 2 := by decide

/-- The traction channel in a handshake. -/
def shaking (x : TractionState) (o : HsOrigin) : State :=
  let s := outstanding []
  { s with traction := { s.traction with st := x, hsSeq := some 5, hsOrigin := o } }

theorem witness_HandshakeEndsByAckOrTimer :
    OneFrame (frameBytes 0x22 0 (byte1 5)) ∧
      (judgeFrame .traction (frameBytes 0x22 0 (byte1 5)) = some (.releaseAck 5) ∧
      (shaking .releasing .directive).traction.hsSeq = some 5 ∧ (shaking .releasing .directive).rx.traction = [] ∧
      (shaking .releasing .directive).traction.hsTimer.isRunning = true ∧
      (shaking .resuming .directive).traction.st = .resuming ∧
      (shaking .resuming .directive).traction.hsOrigin = .directive ∧ running.traction.st ≠ .releasing ∧
      (inSlot (directed .releaseTraction [] none 0) running).decoder.slot.map Slot.code = some .releaseTraction) :=
  ⟨oneFrame_of (by decide +kernel), by decide +kernel⟩

theorem witness_TimedOutReleaseIsActiveAgain :
    Calm (shaking .releasing .directive) ∧ (shaking .releasing .directive).traction.list = [] :=
  ⟨calm_of (fun x => by cases x <;> decide) (fun k => by cases k <;> decide) (by decide), rfl⟩

/-- The maintenance key is set. -/
def keyedPart (s : State) : State := { s with retention := { s.retention with maintenance := some 0x55 } }

theorem witness_TractionIsReleasedAndResumed :
    let x := directed .releaseTraction [] (some .maintenance) 0x55
    let y := directed .resumeTraction [] none 0
    let s := standingStill (inSlot x (keyedPart (outstanding [1])))
    (Awaits s .releaseTraction x ∧ s.retention.lock = false ∧ s.retention.maintenance = some x.key) ∧
      (s.speed.standstill = .confirmed ∧ s.traction.st = .active ∧ s.demand.st = .noDemand ∧
        running.traction.st ≠ .active) ∧
      Awaits (inSlot y (shaking .released .directive)) .resumeTraction y ∧
      (shaking .released .directive).traction.st = .released :=
  ⟨⟨⟨rfl, rfl, rfl⟩, rfl, rfl⟩, by decide, ⟨rfl, rfl, rfl⟩, rfl⟩

/-- A running test. -/
def testing (p : TestPhase) : State :=
  let s := outstanding []
  { s with air := { s.air with phase := p, phaseTimer := .running 5, source := .test } }

theorem witness_AirPathTestRunsAndEnds :
    let x := directed .testAirPath [] none 0
    let y := directed .abortAirPathTest [] none 0
    Awaits (inSlot x (standingStill (outstanding [1, 2, 3]))) .testAirPath x ∧
      Awaits (inSlot y running) .abortAirPathTest y ∧
      ((standingStill (outstanding [1, 2, 3])).testable = true ∧ (outstanding [1, 2, 3]).air.list.length < 4 ∧
        running.testable = false ∧ (testing .bRelease).air.phaseTimer.isRunning = true ∧
        (testing .bRelease).air.phase ≠ .none ∧ running.air.phase = .none ∧
        ({ running with decoder := { running.decoder with aborts := [8] } } : State).decoder.aborts = [8] ∧
        running.decoder.aborts = []) :=
  ⟨⟨rfl, rfl, rfl⟩, ⟨rfl, rfl, rfl⟩, by decide⟩

/-- Every phase with a keepalive running, whose frames carry its pressures; and a test begun with a full list, below
the miss limit of 3 and at it. -/
theorem witness_TestsWithAFullList :
    (∀ p ∈ [TestPhase.aApply, .aRelease, .bApply, .bRelease],
      (testing p).air.keepalive.isRunning = true ∧ (testing p).air.source = .test ∧ (testing p).air.phase = p) ∧
      (∀ m ∈ [1, 2], let s := standingStill (outstanding [1, 2, 3, 4])
        let t : State := { s with air := { s.air with miss := m } }
        t.testable = true ∧ t.air.list.length = 4 ∧ t.params.missLimit = 3 ∧ (m = 2 ↔ 3 ≤ satAdd 255 t.air.miss)) := by
  decide

/-- A paired report in the first and the last phase, with the pressures at the ends of the tolerance of 20 and beyond. -/
theorem witness_PhasesPassWithinTheTolerance :
    let f (a b : Nat) : List Byte := frameBytes 0x41 0 (byte1 5 ++ byte2 a ++ byte2 b)
    let s (p : TestPhase) : State := { testing p with air := { (testing p).air with list := (outstanding [5]).air.list } }
    OneFrame (f 270 20) ∧ ((∀ a ∈ [229, 230, 270, 271], judgeFrame .air (f a 0) = some (.airReport 5 ⟨a, 0⟩)) ∧
      (∀ b ∈ [20, 21], judgeFrame .air (f 0 b) = some (.airReport 5 ⟨0, b⟩)) ∧ (s .aApply).params.testPressure = 250 ∧
      (s .aApply).params.testTolerance = 20 ∧ (s .aApply).air.list = [] ++ [⟨5, .running 5⟩] ∧
      (s .aApply).rx.air = [] ∧ (s .aApply).anyReset = false ∧ (s .bRelease).air.phase = .bRelease ∧
      (match exec (.airReport (f 230 0)) (s .aApply), exec (.airReport (f 229 0)) (s .aApply) with
        | .next t, .next u => (t.air.phase, u.air.phase)
        | _, _ => (.none, .none)) = (.aRelease, .aApply)) := ⟨oneFrame_of (by decide +kernel), by decide +kernel⟩

/-! ### What meets the hypotheses of the statements: the recorder -/

/-- Debounce NONE and 16 ms, each polarity, each detector state, armed with class EMERGENCY and another, and
disarmed. -/
theorem witness_TriggerLinesAreDetected :
    ∀ low ∈ [true, false], ∀ d ∈ [Detector.clear, .seen, .detected], ∀ armed ∈ [true, false],
      ∀ cls ∈ [LineClass.emergency, .serious], ∀ debounce ∈ [Debounce.none, .ms16],
        let s := lineAt ⟨low, debounce, false, cls, true⟩ ⟨!low, d, armed, .running 5⟩
        s.anyReset = false ∧ (s.params.lines.get .l1).debounce = debounce ∧ (s.lines.get .l1).armed = armed ∧
          (s.params.lines.get .l1).cls = cls ∧ (s.lines.get .l1).detector = d ∧
          (s.lines.get .l1).debounce.isRunning = true ∧ Debounce.ms16.period = some 16 := by decide

/-- The recorder IDLE with and without a slot, and in each other state, with a post buffer one short of its end. -/
theorem witness_SoftwareTriggerIsDisposedOf :
    let x := directed .triggerIncident [9] none 0
    Awaits (inSlot x (storeReady emptyEntry running)) .triggerIncident x ∧
      ((storeReady emptyEntry running).canOpen = true ∧ (storeReady emptyEntry running).recorder.st = .idle ∧
      running.canOpen = false ∧
      (∀ y ∈ [RecorderState.opening, .capturing, .closing, .erasing],
        (incidentIn y someIncident running).recorder.st = y) ∧
      someIncident.causes.length < 4 ∧ someIncident.post.length + 1 < running.params.postCount) :=
  ⟨⟨rfl, rfl, rfl⟩, by decide +kernel⟩

theorem witness_IncidentPassesThroughItsStates :
    StoreOnPort (storing (burstOf .partialCrc []) (incidentIn .opening someIncident running))
        (burstOf .partialCrc []) ∧
      StoreOnPort (storing (burstOf .closeEntry [(0, closedEntry)]) (incidentIn .closing someIncident running))
        (burstOf .closeEntry [(0, closedEntry)]) ∧
      StoreOnPort (storing (burstOf .closeHeader []) (incidentIn .closing someIncident running))
        (burstOf .closeHeader []) ∧
      ((incidentIn .capturing someIncident running).recorder.incident = some someIncident ∧
      someIncident.window.isRunning = true ∧ someIncident.truncated = false ∧ running.inputs.powerFail = false ∧
      running.params.postCount ≠ 0 ∧ running.recorder.waiting = none ∧ (storeReady emptyEntry running).canOpen = true ∧
      running.canOpen = false) :=
  ⟨⟨rfl, rfl⟩, ⟨rfl, rfl⟩, ⟨rfl, rfl⟩, by decide +kernel⟩

/-- The last ERASE burst with N of 64: first slot 56. -/
theorem witness_StoreSequencesEnd :
    StoreOnPort (storing (burstOf .headerOnly []) running) (burstOf .headerOnly []) ∧
      StoreOnPort (storing (burstOf (.entryWrite 3 true) [(3, closedEntry)]) running)
        (burstOf (.entryWrite 3 true) [(3, closedEntry)]) ∧
      StoreOnPort (storing (burstOf (.eraseEntries 56 false) []) running) (burstOf (.eraseEntries 56 false) []) ∧
      (running.params.slots ≤ 56 + 8 ∧ ¬running.params.slots ≤ 55 + 8 ∧ running.recorder.waiting = none ∧
        running.recorder.queue = [] ∧ (storeReady emptyEntry running).recorder.store = .ready) :=
  ⟨⟨rfl, rfl⟩, ⟨rfl, rfl⟩, ⟨rfl, rfl⟩, by decide⟩

/-- A part with the guarded window of the table, an incident open in its last slot: the bounds hold, a part's first and
last burst, and a running sequence whose next part is asked for. -/
theorem witness_WritesStayInTheGuardedWindow :
    let s := incidentIn .opening { someIncident with slot := 63 } activePath
    let r : State := { s with recorder := { s.recorder with running := some ⟨.opening, [.partialCrc], []⟩ } }
    s.windowOf .guarded = some ⟨.guarded, 0x400000, 0x21000⟩ ∧ 0x400000 + 0x21000 ≤ 2 ^ 32 ∧ s.params.slots ≤ 256 ∧
      4096 + 2048 * s.params.slots ≤ 0x21000 ∧ (∀ p ∈ [Part.entryWrite 63 true, .eraseEntries 56 false, .scanFooter 63],
        ∀ k, p.names = some k → k < s.params.slots) ∧ someIncident.snapshot.length ≤ 128 ∧
      someIncident.pre.length ≤ 48 ∧ someIncident.post.length ≤ 24 ∧ (s.partBursts .footer).length = 2 ∧
      (s.partBursts .partialCrc).map (fun b => txnAddr b.burst) = [0x420BC0] ∧
      (presentNext r).arb.store = (s.partBursts .partialCrc).head? ∧ 64 * 1 < 116 ∧ ¬64 * 2 < 116 := by decide +kernel

/-- The end of an ERASE with a pending trigger, one that may open its incident and one for which every entry is kept
retained or no number is left. -/
theorem witness_EraseEndsWithAPendingTrigger :
    let p : PendingTrigger := ⟨someCause, [someCause], 0, .operator⟩
    let kept : SlotEntry := { closedEntry with retained := true }
    let b (e : SlotEntry) : StoreBurst := burstOf (.eraseEntries 56 true) ((List.range 8).map fun k => (56 + k, e))
    let s (e : SlotEntry) : State := storing (b e) { running with recorder := { running.recorder with
      st := .erasing, image := List.replicate 64 e, waiting := some p } }
    let after (e : SlotEntry) : State := { s e with recorder := { (s e).recorder with
      image := setEntries (b e).sets (s e).recorder.image } }
    StoreOnPort (s emptyEntry) (b emptyEntry) ∧ ((s emptyEntry).recorder.waiting = some p ∧
      (s emptyEntry).params.slots ≤ 56 + 8 ∧
      ((after emptyEntry).recorder.image.any SlotEntry.eligible = true ∧ (after emptyEntry).chooseSlot = some 0 ∧
        (s emptyEntry).recorder.lifetime < 4294967295 ∧ ¬4294967295 < 4294967295) ∧
      (after kept).recorder.image.any SlotEntry.eligible = false) := ⟨⟨rfl, rfl⟩, by decide +kernel⟩

/-- A scan whose entries have all been read, with a header as read. -/
def scanned (header : List Byte) : State :=
  { running with recorder := { running.recorder with
    store := .scanning
    running := some ⟨.scan, [], []⟩
    scan := some ⟨header, 64, [], [], 0⟩ } }

theorem witness_ScanReadsTheDirectory :
    StoreOnPort (storing (burstOf .footer []) running) (burstOf .footer []) ∧
      StoreOnPort (storing (burstOf .openEntry [(0, closedEntry)]) (incidentIn .opening someIncident running))
        (burstOf .openEntry [(0, closedEntry)]) ∧
      StoreOnPort (storing (burstOf .scanHeader []) (scanned [])) (burstOf .scanHeader []) ∧
      StoreOnPort (storing (burstOf (.scanEntries 56) []) (scanned [])) (burstOf (.scanEntries 56) []) ∧
      StoreOnPort (storing (burstOf .scanHeaderWrite []) (scanned [])) (burstOf .scanHeaderWrite []) ∧
      (Part.scanHeader.ofScan = true ∧ (scanned running.currentHeader).scanDue = true ∧
      headerAgrees (scanned running.currentHeader) running.currentHeader = true ∧
      headerAgrees (scanned running.currentHeader) (zeros 64) = true ∧
      headerAgrees (scanned running.currentHeader) (List.replicate 64 1) = false ∧
      headerPasses 64 running.currentHeader = true ∧ headerPasses 64 (zeros 64) = false ∧
      (entryOf 0 63 closedEntry.bytes).state ≠ .opened ∧ (56 + 7 < 64)) :=
  ⟨⟨rfl, rfl⟩, ⟨rfl, rfl⟩, ⟨rfl, rfl⟩, ⟨rfl, rfl⟩, ⟨rfl, rfl⟩, by decide +kernel⟩

/-- A scan with one repair, whose slot header has been read: closed with the entry's number, with another number, and not
closed; with the footer's class in its range and outside it. -/
def repairing (number state cls : Nat) : State :=
  { running with recorder := { running.recorder with
    store := .scanning
    running := some ⟨.scan, [], []⟩
    scan := some ⟨[], 64, [⟨3, ⟨.opened, 77, 2, false⟩⟩], byte1 state ++ zeros 3 ++ byte4 number, cls⟩ } }

theorem witness_OpenEntriesAreRepaired :
    let closed : SlotEntry := ⟨.closed, 77, 4, false⟩
    StoreOnPort (storing (burstOf (.scanSlotHeader 3) []) (repairing 0 0 0)) (burstOf (.scanSlotHeader 3) []) ∧
      StoreOnPort (storing (burstOf (.scanFooter 3) []) (repairing 77 2 4)) (burstOf (.scanFooter 3) []) ∧
      StoreOnPort (storing (burstOf (.repairEntry 3 closed) [(3, closed)]) (repairing 77 2 4))
        (burstOf (.repairEntry 3 closed) [(3, closed)]) ∧
      ((burstOf (.scanFooter 3) []).last = true ∧ ({ burstOf (.scanFooter 3) [] with last := false }).last = false ∧
        (repairing 77 2 4).recorder.running = some ⟨.scan, [], []⟩ ∧ (repairing 77 2 4).arb.store = none ∧
        (∀ p ∈ [(77, 2, true), (78, 2, false), (77, 1, false)],
          ((repairing p.1 p.2.1 0).recorder.scan.map fun c =>
            field 0 1 c.slotBeat == 2 && field 4 4 c.slotBeat == 77) = some p.2.2) ∧
        (IncidentClass.test.code = 4 ∧ 4 < 5)) :=
  ⟨⟨rfl, rfl⟩, ⟨rfl, rfl⟩, ⟨rfl, rfl⟩, by decide +kernel⟩

/-- The end of a scan with a header that differs, and one that agrees. -/
theorem witness_ScanEndAsksForTheHeader :
    (scanned (List.replicate 64 1)).scanDue = true ∧ (scanned running.currentHeader).scanDue = true ∧
      highestNumber running.recorder.image = 0 ∧
      (match exec (.scanEnd none .grant) (scanned (List.replicate 64 1)) with
        | .next t => t.arb.port
        | _ => none) =
        ((scanned (List.replicate 64 1)).partBursts .scanHeaderWrite).head?.map PortBurst.store := by decide +kernel

theorem witness_StoreWriteFaultStopsTheStore :
    let p : PendingTrigger := ⟨someCause, [someCause], 0, .operator⟩
    let s := storing (burstOf (.entryWrite 3 true) []) (inSlot (directed .retainIncident [3] none 0) running)
    let t : State := { s with
      recorder := { s.recorder with running := some ⟨.entry 3 true, [], []⟩, waiting := some p }
      retention := { s.retention with inHand := some (3, true) } }
    StoreOnPort t (burstOf (.entryWrite 3 true) []) ∧ (Part.entryWrite 3 true).ofScan = false ∧
      t.recorder.store ≠ .fault ∧ t.anyReset = false ∧ t.recorder.waiting = some p ∧
      t.recorder.running.map Running.sequence = some (.entry 3 true) ∧ t.retention.inHand = some (3, true) :=
  ⟨⟨rfl, rfl⟩, by decide +kernel⟩

/-- A write fault of an ERASE sequence with the store already in FAULT sets STORE_ALERT again. -/
theorem witness_StoreWriteFaultOfAnErase :
    let s := storing (burstOf .eraseHeader []) (inSlot (directed .eraseStore [0] (some .authority) 0) running)
    let t : State := { s with recorder := { s.recorder with
      st := .erasing, store := .fault, running := some ⟨.erase false, [], []⟩ } }
    StoreOnPort t (burstOf .eraseHeader []) ∧ t.recorder.store = .fault ∧
      (match exec (.storeWriteFault .grant) t with
        | .next u => flagSet u.status.flags .storeAlert
        | _ => false) = true := ⟨⟨rfl, rfl⟩, rfl, by decide +kernel⟩

/-- The last millisecond of 2099, with and without a leap second, and the ends of a month and of a year. -/
theorem witness_ClocksAndTheWarningGoOn :
    running.inputs.powerFail = false ∧ (incidentIn .opening someIncident running).recorder.st = .opening ∧
      (incidentIn .capturing someIncident running).recorder.incident = some someIncident ∧
      (∀ sec ∈ [59, 60], Calendar.wraps ⟨2099, 12, 31, 23, 59, sec, 999⟩ = true) ∧
      Calendar.wraps ⟨2099, 12, 31, 23, 59, 59, 998⟩ = false ∧
      Calendar.next ⟨2098, 12, 31, 23, 59, 59, 999⟩ = ⟨2099, 1, 1, 0, 0, 0, 0⟩ ∧
      Calendar.next ⟨2099, 2, 28, 23, 59, 59, 999⟩ = ⟨2099, 3, 1, 0, 0, 0, 0⟩ := by decide

theorem witness_PlainDirectivesTakeEffect :
    let a := directed .acknowledgeFlags [0xFF, 0x3F] none 0
    let i := directed .setIndication [1] none 0
    let t := directed .setTime [0xD0, 7, 1, 1, 0, 0, 0] none 0
    let l := directed .armTriggerLine [3] none 0
    let f := directed .freeze [] none 0
    (Awaits (inSlot a running) .acknowledgeFlags a ∧ Awaits (inSlot i running) .setIndication i ∧
      Awaits (inSlot t running) .setTime t ∧ Awaits (inSlot l running) .armTriggerLine l ∧
      Awaits (inSlot f running) .freeze f) ∧ field 0 1 l.args = lineCode .l3 ∧ running.params.source = .direct ∧
      ({ running with params := { running.params with source := .latched } } : State).params.source ≠ .direct :=
  ⟨⟨⟨rfl, rfl, rfl⟩, ⟨rfl, rfl, rfl⟩, ⟨rfl, rfl, rfl⟩, ⟨rfl, rfl, rfl⟩, ⟨rfl, rfl, rfl⟩⟩, by decide⟩

/-- The lines with a flag enabled and not, the indication by each kind of source, and the fault line. -/
theorem witness_OutputLines :
    let s (f e : BitVec 16) (src : IndicationSource) (key : Nat) (inv : Bool) : State := { running with
      status := { running.status with flags := f, direct := true, demandHanded := .penalty }
      params := { running.params with enableSet := e, source := src, activation := key, invert := inv } }
    (s 4 4 .direct 0x5A false).attention = true ∧ (s 4 8 .direct 0x5A false).attention = false ∧
      (∀ src ∈ [IndicationSource.flag .pathViolation, .latched, .direct],
        (s EventFlag.pathViolation.mask 0 src 0x5A false).indication = true ∧
          (s EventFlag.pathViolation.mask 0 src 0x5A true).indication = false ∧
          (s EventFlag.pathViolation.mask 0 src 0 false).indication = false) ∧
      running.faultLine = false := by decide

/-- Each ruling of the key check: frozen, locked, an unset key, a wrong value and a key not accepted; and the accepted
directives. -/
theorem witness_KeysGuardTheirDirectives :
    let x := directed .eraseStore [0] (some .authority) 1
    let y := directed .resetAttributes [] (some .maintenance) 0x55
    let z := directed .setKey [] (some .authority) 0
    let w := directed .setRetentionLevel [1] (some .authority) 0x66
    let k : State := { running with retention := { running.retention with
      maintenance := some 0x55, authority := some 0x66 } }
    (Awaits (inSlot x k) .eraseStore x ∧ Awaits (inSlot y k) .resetAttributes y ∧
      Awaits (inSlot z running) .setKey z ∧ Awaits (inSlot w k) .setRetentionLevel w) ∧
      (Instr.eraseStore, DirectiveCode.eraseStore) ∈ directiveCommands ∧
      DirectiveCode.eraseStore.keyBearing = true ∧ k.retention.keyOf .authority = some 0x66 ∧
      x.key ≠ 0x66 ∧ y.key = 0x55 ∧ w.key = 0x66 ∧ running.retention.keyOf .authority = none ∧
      DirectiveCode.accepts true .maintenance .eraseStore = false ∧ k.retention.lock = false ∧
      k.retention.frozen = false ∧
      ({ k with retention := { k.retention with frozen := true } } : State).retention.frozen = true ∧
      ({ k with retention := { k.retention with lock := true } } : State).retention.lock = true :=
  ⟨⟨⟨rfl, rfl, rfl⟩, ⟨rfl, rfl, rfl⟩, ⟨rfl, rfl, rfl⟩, ⟨rfl, rfl, rfl⟩⟩, by decide⟩

/-- A count that reaches its threshold, one that stays below it, one with no threshold and one already EXCEEDED; and the
truck moves that count. -/
theorem witness_HealthCounts :
    let s (n threshold : Nat) (ex : Bool) : State := { running with
      retention := { running.retention with
        counts := running.retention.counts.set .gridTrips n, exceeded := running.retention.exceeded.set .gridTrips ex }
      params := { running.params with health := running.params.health.set .gridTrips ⟨threshold, true⟩ } }
    let reached (s : State) : Bool := !s.retention.exceeded.get .gridTrips &&
      (s.params.health.get .gridTrips).threshold != 0 &&
      decide ((s.params.health.get .gridTrips).threshold ≤ satAdd 65535 (s.retention.counts.get .gridTrips))
    let moved (x : TruckState) : SlideUnit := { running.slide with trucks := ⟨x, .apply⟩ }
    reached (s 2 3 false) = true ∧ reached (s 1 3 false) = false ∧ reached (s 2 0 false) = false ∧
      reached (s 2 3 true) = false ∧ satAdd 65535 65535 = 65535 ∧ running.anyReset = false ∧
      State.reset.anyReset = true ∧
      (∀ x ∈ [TruckState.apply, .dump, .hold, .reapply, .fault], (moved x).trucks.get .a = x) ∧
      (countHealth .gridTrips (s 2 3 false)).retention.verdict = .preFailure := by decide +kernel

/-- The rulings on ERASE STORE, RETAIN INCIDENT and RELEASE INCIDENT: busy, early, and taken. -/
theorem witness_StoreDirectivesAreRuledOn :
    let k (s : State) : State := { s with retention := { s.retention with authority := some 0x66 } }
    let e := directed .eraseStore [1] (some .authority) 0x66
    let r := directed .retainIncident [63, 0] none 0
    let u := directed .releaseIncident [63, 0] (some .authority) 0x66
    (Awaits (inSlot e (k running)) .eraseStore e ∧ Awaits (inSlot r (k running)) .retainIncident r ∧
      Awaits (inSlot u (k running)) .releaseIncident u) ∧
      (k running).retention.keyOf .authority = some 0x66 ∧ running.eraseRefusal = some .state ∧
      (storeReady closedEntry running).eraseRefusal = none ∧
      (incidentIn .opening someIncident running).eraseRefusal = some .busy ∧
      (storeReady closedEntry running).retentionRefusal 63 true = none ∧
      (storeReady { closedEntry with retained := true } running).retentionRefusal 63 false = none ∧
      (storeReady closedEntry running).retentionRefusal 63 false = some .state ∧
      (incidentIn .opening someIncident running).retentionRefusal 63 true = some .busy :=
  ⟨⟨⟨rfl, rfl, rfl⟩, ⟨rfl, rfl, rfl⟩, ⟨rfl, rfl, rfl⟩⟩, by decide⟩

/-! ### What meets the hypotheses of the statements: the clauses across units, at the ends of their ranges -/

/-- Events that are nearly there: a held transaction of another direction or class, a burst of another part on the port,
another sequence in the list, an open incident whose window is stopped, the millisecond before the last of 2099, and
resets and a warning in force and over. -/
theorem witness_EventsThatAreAlmostThere :
    (∀ h off, (holding (.read 0x3000 1) (.served 0) false).path.held = some h → h.cls = .served off →
      txnIsWrite h.txn = false) ∧
    (∀ h, (holding (.read 0x400000 1) .guarded false).path.held = some h → h.cls = .guarded →
      txnIsWrite h.txn = false) ∧
    (∀ h, (holding (.read 0x9000 1) .outside false).path.held = some h → h.cls ≠ .straddle) ∧
    (∀ b, StoreOnPort (storing (burstOf .headerOnly []) running) b → b.part ≠ .partialCrc) ∧
    (∀ b, LoadOnPort (loading .anchor running) b → b.kind ≠ .config) ∧
    ¬EndOf2099 ⟨2099, 12, 31, 23, 59, 59, 998⟩ ∧
    ((∀ e ∈ (outstanding [4, 5]).air.list, e.sequence ≠ (6 : Byte).toNat) ∧
      (incidentIn .capturing { someIncident with window := .stopped } running).recorder.incident.map Incident.window =
        some .stopped ∧
      running.scanDue = false ∧ running.inputs = ⟨false, false, false⟩ ∧
      (inReset true true).inputs = ⟨true, true, false⟩ ∧
      ({ running with inputs := ⟨false, false, true⟩ } : State).inputs.powerFail = true) :=
  ⟨fun h _ e _ => by cases e; rfl, fun h e _ => by cases e; rfl, fun h e => by cases e; decide,
    fun b h => by cases h.1; decide, fun b h => by cases h.1; decide, fun h => absurd h.1 (by decide), by decide +kernel⟩

/-- A window holds its first and its last beat and no other, an unused one none; the anchor block's first and last
address; and windows that touch share no byte. -/
theorem witness_EndsOfWindowsAndAnchor :
    let w : Window := ⟨.served, 0x3000, 4096⟩
    (w.holds 0x2FF8 = false ∧ w.holds 0x3000 = true ∧ w.holds 0x3FF8 = true ∧ w.holds 0x4000 = false) ∧
      Window.holds ⟨.unused, 0x3000, 4096⟩ 0x3000 = false ∧
      (inAnchor 0x8000 0x7FF8 = false ∧ inAnchor 0x8000 0x8000 = true ∧ inAnchor 0x8000 0x80FF = true ∧
        inAnchor 0x8000 0x8100 = false) ∧
      w.overlaps ⟨.watch, 0x4000, 4096⟩ = false ∧ w.overlaps ⟨.watch, 0x3000, 4096⟩ = true ∧
      (1 < txnLength (.read 0x3000 2) ∧ (beatAddrs (.read 0x3000 2))[1]? = some 0x3008) := by decide +kernel

/-- A refused record out of reset has its flag and its entry; and a directive in the slot, of a code and of another. -/
theorem witness_ResultsArePublished :
    let s := inSlot (directed .freeze [] none 0) running
    (match exec (.passResponse .ok []) (directiveWrite (directiveRecord 0x04 4 0)) with
      | .next t => (t.decoder.last, flagSet t.status.flags .directiveDone, t.recorder.ring)
      | _ => (⟨0, 0, .none⟩, false, [])) = (⟨7, 4, .argument⟩, true, [⟨.directive 4 7 .argument, 0⟩]) ∧
      s.anyReset = false ∧ (finish .freeze .done s).decoder.slot = none ∧ finish .setKey .done s = s ∧
      (inReset true false).anyReset = true := by decide +kernel

/-- A line with debounce NONE, armed in mode ONCE, at its active level and not, and one with a debounce period, at the
release of each reset. -/
theorem witness_LinesAtARelease :
    let s (p c : Bool) (d : Debounce) (high : Bool) : State := { inReset p c with
      params := (lineAt ⟨false, d, false, .serious, false⟩ ⟨high, .seen, true, .stopped⟩).params
      lines := (lineAt ⟨false, d, false, .serious, false⟩ ⟨high, .seen, true, .stopped⟩).lines }
    let after (c : Instr) (s : State) : Option LineState := match exec c s with
      | .next t => some t.lines.l1
      | _ => none
    (∀ x ∈ [(s true false, Instr.powerOnResetRelease false false true),
        (s false true, .coreResetRelease false false .first)],
      after x.2 (x.1 .none true) = some ⟨true, .detected, false, .stopped⟩ ∧
        after x.2 (x.1 .none false) = some ⟨false, .clear, true, .stopped⟩ ∧
        after x.2 (x.1 .ms16 true) = some ⟨true, .clear, true, .running 16⟩) := by decide +kernel

/-- The first record, the next number with other fields and with the last one's, and a gap, with the entries and marks
that they bring; and an EMERGENCY record out of reset. -/
theorem witness_DemandEntries :
    let f : DemandFields := ⟨.service, 0, ⟨0, 0⟩, .blended, 0⟩
    let s (n : Nat) (last : Option DemandRecord) (x : DemandState) : State :=
      let s := inboxed (completed (demandBytes n 2)) x 0
      { s with demand := { s.demand with last := last } }
    let ring (s : State) : List TraceKind := match exec .demandRecord s with
      | .next t => t.recorder.ring.map TraceEntry.kind
      | _ => []
    (ring (s 10 none .noDemand)).take 2 = [.demand ⟨10, f⟩ false, .dstate .noDemand .live .firstRecord] ∧
      (ring (s 10 (some lastRecord) .live)).take 1 = [.demand ⟨10, f⟩ false] ∧ lastRecord.fields ≠ f ∧
      .demand ⟨10, f⟩ false ∉ ring (s 10 (some ⟨9, f⟩) .live) ∧
      (ring (s 11 (some ⟨9, f⟩) .stale)).take 2 = [.demand ⟨11, f⟩ true, .dstate .stale .live .record] ∧
      (s 10 (some ⟨65535, f⟩) .penalty).anyReset = false ∧ (65535 + 1) % 65536 = 0 ∧
      .trigger .emergencyDemand 1 true ∈ ring (inboxed (completed (demandBytes 10 3)) .live 0) := by decide +kernel

/-- A BLEND entry that was never made, one a whole pressure step away and one a kPa less, by either truck and either way,
and the same for the sum of the targets. -/
theorem witness_BlendEntries :
    let s (p : Option (Pair Nat × Nat)) : State := { running with blend := { running.blend with traced := p } }
    let traced (s : State) : Bool := (recompute false s).recorder.ring != s.recorder.ring
    running.blendValues.commanded = ⟨150, 150⟩ ∧ running.blendValues.targets = Six.all 0 ∧
      running.params.pressureStep = 10 ∧ running.params.dynamicStep = 5 ∧ running.anyReset = false ∧
      traced (s none) = true ∧
      (∀ p ∈ [(⟨160, 150⟩, 0), (⟨150, 140⟩, 0), (⟨150, 150⟩, 5)], traced (s (some p)) = true) ∧
      (∀ p ∈ [(⟨159, 141⟩, 4), (⟨150, 150⟩, 0)], traced (s (some p)) = false) := by decide +kernel

/-- A state with each limiting reason; a hand-off to make and one that is not; and the two outcomes of an event's first
recompute. -/
theorem witness_LimitingReasonsAndHandOffs :
    let s := brakingAt .cool 100
    let cut : State := { s with speed := { s.speed with reference := some 0 } }
    let air : State := { s with demand := { s.demand with
      effective := { s.demand.effective with fields := { s.demand.effective.fields with policy := .airOnly } } } }
    let handed : State := { running with blend := { running.blend with
      handedTargets := some running.blendValues.targets, handedAir := some running.blendValues.commanded } }
    [{ s with slide := { s.slide with axles := Six.all .sliding } }, brakingAt .derated 600, running, cut, air, s].map
        State.limiting = [.slide, .grid, .capability, .cutout, .policy, .none] ∧
      (brakingAt .derated 560).limiting = .none ∧ s.anyReset = false ∧ (inReset true false).anyReset = true ∧
      running.blend.handedTargets = none ∧ running.air.values = none ∧ running.air.source = .blend ∧
      (recompute false handed).traction.values = handed.traction.values ∧
      (recompute false running).slide.trucks = running.slide.trucks := by decide +kernel

/-- A fresh sample, the loss of the speed link in ACTIVE and each slide timer running. -/
theorem witness_EventsThatRecompute :
    let timed : State := { running with
      speed := { running.speed with sensor := .running 5, link := .active }
      slide := { running.slide with recovery := Six.all (.running 5), hold := ⟨.running 5, .running 5⟩
                                    reapply := ⟨.running 5, .running 5⟩, release := ⟨.running 5, .running 5⟩ } }
    running.rx.speed = [] ∧ running.speed.number ≠ some 2 ∧ timed.speed.sensor.isRunning = true ∧
      timed.speed.link ≠ .lost ∧ (timed.slide.recovery.get .n6).isRunning = true ∧
      (timed.slide.hold.get .b).isRunning = true ∧ (timed.slide.reapply.get .b).isRunning = true ∧
      (timed.slide.release.get .b).isRunning = true ∧
      (outstanding [4, 5]).air.list = [⟨4, .running 5⟩] ++ [⟨5, .running 5⟩] := by decide

/-- Arming at the floor and one tenth below it, by each braking reason and by none; a loss and an INVALID axle that bring
UNSENSED; and a sample that arms and judges its axles in the same event. -/
theorem witness_ArmingAndDisarming :
    let e : SlideEvent := { SlideEvent.exam with sample := true }
    let at' (s : State) (r : Nat) : State := { s with
      speed := { s.speed with link := .active, reference := some r, axles := Six.all (.speed r) } }
    let quiet := at' (slidingAt 500 .adhering .apply) 30
    let idle : State := { quiet with
      demand := running.demand, slide := { quiet.slide with armed := false, commanded := some ⟨150, 150⟩ } }
    let dyn : State := { idle with demand := { (demandIn .live running).demand with
      effective := ⟨some 9, { someFields .service with effort := 1 }⟩ } }
    let slipping : State := { slidingAt 400 .adhering .apply with
      slide := { (slidingAt 400 .adhering .apply).slide with armed := false, commanded := some ⟨151, 150⟩ } }
    idle.params.armingFloor = 30 ∧ idle.params.holdPressure = 150 ∧
      (∀ x ∈ [dyn, { idle with demand := (demandIn .penalty running).demand },
          { idle with demand := (demandIn .emergency running).demand },
          { idle with slide := { idle.slide with commanded := some ⟨150, 151⟩ } },
          { idle with slide := { idle.slide with trucks := ⟨.apply, .reapply⟩ } }],
        (slideNext e x).armed = true ∧ (slideNext e (at' x 29)).armed = false) ∧
      (slideNext e idle).armed = false ∧ (slideNext { e with arming := false } dyn).armed = false ∧
      ((slideNext e slipping).armed = true ∧ (slideNext e slipping).axles.get .n1 = .sliding) ∧
      (slideNext e { slipping with speed := { slipping.speed with
        axles := slipping.speed.axles.set .n1 .invalid } }).axles.get .n1 = .unsensed ∧
      (slideNext { SlideEvent.exam with lost := true } (slidingAt 400 .sliding .dump)).trucks = ⟨.apply, .apply⟩ ∧
      (slideNext { SlideEvent.exam with lost := true } (slidingAt 400 .sliding .fault)).trucks = ⟨.fault, .fault⟩ := by
  decide +kernel

/-- An armed part at the loss of its speed link, its trucks in each state. -/
theorem witness_SensorLossDisarms :
    ∀ t ∈ [TruckState.apply, .dump, .hold, .reapply, .fault],
      let s := slidingAt 400 .sliding t
      let lost : State := { s with speed := { s.speed with sensor := .running 5 } }
      lost.speed.sensor.isRunning = true ∧ lost.slide.armed = true ∧ lost.anyReset = false ∧
        (match exec .sensorTimerExpiry lost with
          | .next u => (u.slide.armed, u.slide.axles, u.slide.trucks.get .a)
          | _ => (true, lost.slide.axles, t)) =
          (false, Six.all .unsensed, if t = .fault then .fault else .apply) := by decide +kernel

/-- RELEASING and RELEASED at a departure to MOVING and to UNKNOWN, at the loss of the speed link, at a sample that keeps
standstill and at an EMERGENCY record. -/
theorem witness_AutomaticResumes :
    ∀ x ∈ [TractionState.releasing, .released],
      let s := standingStill (shaking x .directive)
      let lost : State := { s with speed := { s.speed with sensor := .running 5 } }
      let inbox : State := { s with demand := { s.demand with inbox := [completed (demandBytes 10 3)] } }
      let after (v : Nat) : Standstill := (speedAfter 2 40 (Six.all v) s).standstill
      s.rx.speed = [] ∧ s.speed.number ≠ some 2 ∧ s.speed.standstill = .confirmed ∧ s.anyReset = false ∧
        after 1600 = .moving ∧ after 65535 = .unknown ∧ after 0 = .confirmed ∧ lost.speed.sensor.isRunning = true ∧
        inbox.demand.st ≠ .emergency ∧ inbox.demand.last = none ∧
        (autoResume true s).traction.st = .resuming ∧
        ⟨.trigger .releaseOverrun 2 true, 0⟩ ∈ (autoResume true s).recorder.ring ∧
        (autoResume true running).traction.st = running.traction.st ∧
        (linksTakeDemand .state (demandIn .emergency s)).traction.st = .resuming ∧
        (linksTakeDemand .state s).traction.st = x := by decide +kernel

/-- A running test with its directive in the slot: at a record with other fields, at one with the sequence alone, at an
EMERGENCY record, at the entry to STALE, at the loss of standstill, and at the miss that loses the channel. -/
theorem witness_TestsAreAborted :
    let s := standingStill (inSlot (directed .testAirPath [] none 0) (testing .bApply))
    let live : State := { s with demand := (demandIn .live running).demand }
    let rec' (n m : Nat) (last : DemandFields) : State := { live with demand := { live.demand with
      inbox := [completed (demandBytes n m)], last := some ⟨9, last⟩ } }
    let f : DemandFields := ⟨.service, 0, ⟨0, 0⟩, .blended, 0⟩
    let phase (c : Instr) (s : State) : TestPhase := match exec c s with
      | .next t => t.air.phase
      | _ => .none
    let missing : State := { s with air := { s.air with list := (outstanding [3]).air.list, miss := 2 } }
    phase .demandRecord (rec' 10 2 (someFields .service)) = .none ∧ phase .demandRecord (rec' 10 2 f) = .bApply ∧
      phase .demandRecord (rec' 10 3 f) = .none ∧ live.demand.freshness.isRunning = true ∧
      phase .freshnessTimerExpiry live = .none ∧
      ({ s with speed := { s.speed with sensor := .running 5 } } : State).speed.sensor.isRunning = true ∧
      missing.air.st ≠ .lost ∧ missing.params.missLimit ≤ satAdd 255 missing.air.miss ∧
      phase (.replyTimerExpiry .air 3) missing = .none ∧ phase (.replyTimerExpiry .air 3) s = .bApply := by
  decide +kernel

/-- Openings that count up from the next-slot index, pass a retained entry, one that is OPEN and one that a RETAIN
INCIDENT in hand names, and go round to 0; and a part with none to choose. -/
theorem witness_SlotsAreChosen :
    let s (next : Nat) (es : List SlotEntry) : State := { running with
      params := { running.params with slots := 4 }
      recorder := { running.recorder with store := .ready, image := es, nextSlot := next } }
    let kept : SlotEntry := { closedEntry with retained := true }
    let hand (k : Nat) (m : Bool) (s : State) : State := { s with retention := { s.retention with inHand := some (k, m) } }
    (s 2 [emptyEntry, kept, kept, kept]).chooseSlot = some 0 ∧
      (s 1 [emptyEntry, { closedEntry with state := .opened }, closedEntry, kept]).chooseSlot = some 2 ∧
      (hand 1 true (s 1 [emptyEntry, closedEntry, kept, { closedEntry with state := .interrupted }])).chooseSlot =
        some 3 ∧
      (hand 1 false (s 1 [emptyEntry, closedEntry, kept, kept])).chooseSlot = some 1 ∧
      (s 0 [kept, kept, kept, kept]).chooseSlot = none ∧ (s 3 [kept, kept, kept, closedEntry]).chooseSlot = some 3 := by
  decide +kernel

/-- A post buffer one entry short of its end and two short, out of reset; a sequence that waits behind the OPEN sequence;
and a pending trigger at the end of the CLOSE sequence. -/
theorem witness_CapturesFill :
    let e : TraceEntry := ⟨.test .aApply .started, 0⟩
    let s (n : Nat) : State := incidentIn .capturing { someIncident with post := List.replicate n e } running
    let waiting : State := { incidentIn .closing someIncident (storeReady emptyEntry running) with
      recorder := { (incidentIn .closing someIncident (storeReady emptyEntry running)).recorder with
        waiting := some ⟨someCause, [someCause], 0, .operator⟩, queue := [.header] } }
    running.params.postCount = 16 ∧ (trace (.test .aApply .started) (s 14)).recorder.st = .capturing ∧
      (trace (.test .aApply .started) (s 15)).recorder.st = .closing ∧
      (trace (.test .aApply .started) (s 15)).recorder.running.map Running.sequence = some .closing ∧
      (s 15).recorder.store ≠ .fault ∧ (s 15).anyReset = false ∧ judgeFrame .speed (airFrame 5) = none ∧
      waiting.recorder.waiting.isSome = true ∧ waiting.canOpen = true ∧
      (match exec .closeSequenceEnd (storing (burstOf .closeHeader []) waiting) with
        | .next t => (t.recorder.running.map Running.sequence, t.recorder.queue, t.recorder.nextSlot)
        | _ => (none, [], 0)) = (some .header, [.opening], 1) := by decide +kernel

/-- Eligibility examined again at an entry write: to FULL with STORE_ALERT, and back to READY with the stale mark set, which
asks for the HEADER sequence. -/
theorem witness_EligibilityIsExaminedAgain :
    let kept : SlotEntry := { closedEntry with retained := true }
    let s (x : StoreState) (m : Bool) : State := { running with
      params := { running.params with slots := 1 }
      recorder := { running.recorder with
        store := x, stale := true, running := some ⟨.entry 0 m, [], []⟩
        image := [{ closedEntry with retained := !m }] } }
    let after (x : StoreState) (m : Bool) (e : SlotEntry) : StoreState × Bool × Option Sequence :=
      match exec .entrySequenceDone (storing (burstOf (.entryWrite 0 m) [(0, e)]) (s x m)) with
      | .next t => (t.recorder.store, flagSet t.status.flags .storeAlert, t.recorder.running.map Running.sequence)
      | _ => (.unchecked, false, none)
    after .ready true kept = (.full, true, none) ∧ after .full false closedEntry = (.ready, false, some .header) ∧
      after .fault false closedEntry = (.fault, false, none) := by decide +kernel

/-- The header of an OPEN sequence as it is current and as it is not, the entries of an erase burst that is not the last,
the repair's first beat, and a header that does not pass. -/
theorem witness_PartsWithinASequence :
    let header : StoreBurst := ⟨.openHeader, true, .write 0 ((toBeats 8 running.currentHeader).map full), [], false⟩
    let stale : State := { running with recorder := { running.recorder with stale := true } }
    let mark (b : StoreBurst) : Option Bool := match exec (.storeBurstResponse []) (storing b stale) with
      | .next t => some t.recorder.stale
      | _ => none
    (mark header = some false ∧ mark (burstOf .openHeader []) = some true) ∧ 48 + 8 < running.params.slots ∧
      StoreOnPort (storing (burstOf (.repairBeat 3 77) []) running) (burstOf (.repairBeat 3 77) []) ∧
      StoreOnPort (storing (burstOf (.eraseEntries 48 false) [(48, emptyEntry)]) running)
        (burstOf (.eraseEntries 48 false) [(48, emptyEntry)]) ∧
      (match exec (.scanHeaderRead [0]) (storing (burstOf .scanHeader []) (repairing 0 0 0)) with
        | .next t => (t.recorder.store, flagSet t.status.flags .storeAlert)
        | _ => (.unchecked, false)) = (.fault, true) :=
  ⟨by decide +kernel, by decide, ⟨rfl, rfl⟩, ⟨rfl, rfl⟩, by decide +kernel⟩

/-- A directive's final result out of reset: its entry, its flag and the empty slot. -/
theorem witness_FinalResultsArePublished :
    let x := directed .freeze [] none 0
    (Instr.freeze, DirectiveCode.freeze) ∈ (Instr.abortAirPathTest, DirectiveCode.abortAirPathTest) :: directiveCommands ∧
      (inSlot x running).anyReset = false ∧ (inSlot x running).decoder.aborts = [] ∧
      (match exec .freeze (inSlot x running) with
        | .next t => (t.decoder.slot, t.recorder.ring, flagSet t.status.flags .directiveDone)
        | _ => (some x, [], false)) = (none, [⟨.directive DirectiveCode.freeze.code 7 .done, 0⟩], true) := by decide +kernel

/-- A record's code bytes at the ends of their ranges: the source, a line's debounce and class, and a window's kind. -/
theorem witness_RecordFieldsSetTheirParameters :
    let at' (n : Nat) (x : Byte) : List Byte := goodRecord.set n x
    (∀ n ∈ [(0 : Byte), 15], field 227 1 (at' 227 n) = n.toNat ∧ (parseParams (at' 227 n)).source.code = n.toNat) ∧
      (∀ p ∈ [((0 : Byte), none), (3, some 50)],
        ((parseParams (at' 216 p.1)).lines.get .l2).debounce.period = p.2) ∧
      (∀ n ∈ [(1 : Byte), 5], ((parseParams (at' 218 n)).lines.get .l2).cls.code = n.toNat) ∧
      (∀ p ∈ [((0 : Byte), WindowKind.unused), (5, .watch)],
        (parseWindows (at' 128 p.1))[7]?.map Window.kind = some p.2) := by decide +kernel

/-- The dwell timer at the standstill speed of 0.5 km/h and below it, from each standstill state. -/
theorem witness_DwellTimerFollowsStandstill :
    let s (x : Standstill) : State := { running with speed := { (sampledAt none none).speed with
      standstill := x, dwell := .running 7 } }
    let dwell (x : Standstill) (v : Nat) : Timer := (speedAfter 2 40 (Six.all v) (s x)).dwell
    running.params.standstillSpeed = 5 ∧
      (∀ x ∈ [Standstill.unknown, .moving, .dwelling, .confirmed], dwell x 5 = .stopped) ∧
      (∀ x ∈ [Standstill.unknown, .moving], dwell x 4 = .running (running.params.standstillDwell * 1000)) ∧
      dwell .dwelling 4 = .running 7 ∧ dwell .confirmed 4 = .stopped ∧ dwell .dwelling 1601 = .stopped := by
  decide +kernel

/-- A core reset with a PASS burst on the port and a claim behind it, and with a PASS claim and a free port. -/
theorem witness_CoreResetLeavesThePassSide :
    let s (port : Option PortBurst) : State := { running with arb := { running.arb with
      port := port, pass := some (.read 0 1), store := some (burstOf .headerOnly []) } }
    let after (port : Option PortBurst) : Option PortBurst × Option Transaction × Option StoreBurst :=
      match exec .coreReset (s port) with
      | .next t => (t.arb.port, t.arb.pass, t.arb.store)
      | _ => (none, none, none)
    after (some (.pass (.read 8 1))) = (some (.pass (.read 8 1)), some (.read 0 1), none) ∧
      after none = (some (.pass (.read 0 1)), none, none) := by decide +kernel

/-- Grants that present the next burst: of the loader's queue, of the part that is written, and of the next part, with
a part of no burst before it. -/
theorem witness_GrantsPresentTheNextBurst :
    let l (n : Nat) : LoadBurst := ⟨.config, .read (BitVec.ofNat 32 (64 * n)) 8, false⟩
    let loads : State := { running with
      arb := { running.arb with load := some (l 0) }
      loader := { running.loader with queue := [l 1, l 2] } }
    let x := burstOf .headerOnly []
    let stores (parts : List Part) (bursts : List StoreBurst) : State := { activePath with
      arb := { activePath.arb with store := some x }
      recorder := { activePath.recorder with running := some ⟨.header, parts, bursts⟩ } }
    ((arbitrate loads).arb.port, (arbitrate loads).arb.load, (arbitrate loads).loader.queue) =
        (some (.load (l 0)), some (l 1), [l 2]) ∧
      ((arbitrate (stores [] [x])).arb.store, (arbitrate (stores [] [x])).recorder.running) =
        (some x, some ⟨.header, [], []⟩) ∧
      activePath.partBursts (.preEntries) = [] ∧
      (arbitrate (stores [.preEntries, .headerOnly] [])).arb.store = (activePath.partBursts .headerOnly).head? ∧
      (activePath.partBursts .headerOnly).length = 1 ∧
      (arbitrate (stores [.preEntries, .headerOnly] [])).recorder.running = some ⟨.header, [], []⟩ := by
  decide +kernel

/-- Frames at the ends of what each link takes: each field at its greatest value and beyond, a kind of another link, a
length that is not the kind's, and a CRC byte that is one off. -/
theorem witness_LinksDiscardByTheirConditions :
    let dyn (k : Nat) (v : Byte) (t u : Nat) (mode : Byte) : List Byte :=
      frameBytes 0x21 0 (byte1 5 ++ (List.replicate 12 0).set (k - 1) v ++ byte2 t ++ byte2 u ++ [mode])
    let air (a b : Nat) : List Byte := frameBytes 0x41 0 (byte1 5 ++ byte2 a ++ byte2 b)
    let damaged (f : List Byte) : List Byte := f.dropLast ++ [f.getLastD 0 + 1]
    let sample := sampleFrame 2 40 (Six.all 0)
    let takes (l : Link) (f : List Byte) : Bool := (judgeFrame l f).isSome
    ([dyn 1 150 0 0 0, dyn 12 150 0 0 0, dyn 1 0 900 900 0, dyn 1 0 0 0 2, frameBytes 0x22 0 (byte1 5)].all
        (takes .traction) = true ∧
      [dyn 1 151 0 0 0, dyn 12 151 0 0 0, dyn 1 0 901 0 0, dyn 1 0 0 901 0, dyn 1 0 0 0 3, damaged (dyn 1 0 0 0 0),
        frameBytes 0x22 0 [], frameBytes 0x22 0 (byte2 5), damaged (frameBytes 0x22 0 (byte1 5)),
        frameBytes 0x21 0 (zeros 17), frameBytes 0x21 0 (zeros 19), air 0 0, sample].any (takes .traction) = false) ∧
      (takes .air (air 600 600) = true ∧
        [air 601 0, air 0 601, damaged (air 0 0), frameBytes 0x41 0 (zeros 4), frameBytes 0x41 0 (zeros 6),
          frameBytes 0x22 0 (byte1 5), sample].any (takes .air) = false) ∧
      (takes .speed sample = true ∧
        [damaged sample, frameBytes 0x51 0 (zeros 15), frameBytes 0x51 0 (zeros 17), air 0 0].any
          (takes .speed) = false) := by decide +kernel

/-- A receiver before a delimiter, within a frame, at a byte 7E of the payload, and at a frame's last byte. -/
theorem witness_ReceiversTakeByteByByte :
    let f : List Byte := frameBytes 0x41 0 (byte1 0x7E ++ byte2 600 ++ byte2 0)
    let s (l : List Byte) : State := { outstanding [0x7E] with rx := running.rx.set .air l }
    (receiveByte .air (s []) 0).rx.air = [] ∧ (receiveByte .air (s []) 0x7E).rx.air = [0x7E] ∧ f.length = 13 ∧
      (receiveByte .air (s (f.take 4)) 0x7E).rx.air = f.take 5 ∧
      ((f.take 12).foldl (receiveByte .air) (s [])).rx.air = f.take 12 ∧
      (f.foldl (receiveByte .air) (s [])).rx.air = [] ∧
      (match exec (.airReport ([0, 1] ++ f)) (s []) with
        | .next t => t.air.last
        | _ => none) = some ⟨600, 0⟩ := by decide +kernel

/-- A command sent to a full list, below the miss limit of 3 and at it, in a channel that can be lost and in one that is
LOST already. -/
theorem witness_FullListsMayLoseTheChannel :
    let s (m : Nat) (x : TractionState) (y : LinkState) : State :=
      let o := outstanding [1, 2, 3, 4]
      { o with traction := { o.traction with st := x, miss := m }, air := { o.air with st := y, miss := m } }
    let sent (m : Nat) (x : TractionState) (y : LinkState) : Nat × TractionState × Nat × LinkState :=
      let t := sendTraction (s m x y)
      let u := sendAir (s m x y)
      (t.traction.miss, t.traction.st, u.air.miss, u.air.st)
    (outstanding [1]).params.missLimit = 3 ∧ sent 1 .active .active = (2, .active, 2, .active) ∧
      sent 2 .active .active = (3, .lost, 3, .lost) ∧ sent 2 .starting .starting = (3, .lost, 3, .lost) ∧
      sent 2 .lost .lost = (3, .lost, 3, .lost) ∧ (sendTraction (s 2 .lost .lost)).recorder.ring = [] ∧
      (sendTraction (s 2 .active .active)).recorder.ring ≠ [] := by decide +kernel

/-- Hand-offs of values already handed, of values equal to those to send, and of new ones, in a sending state, in
RELEASED and while the test is the command source. -/
theorem witness_HandOffsOfResults :
    let o := outstanding []
    let v : Six Nat := Six.all 9
    let w : Pair Nat := ⟨200, 100⟩
    let s (handed : Bool) (equal : Bool) (x : TractionState) (c : CommandSource) : State := { o with
      blend := { o.blend with
        targets := v
        commanded := w
        handedTargets := if handed then some v else none
        handedAir := if handed then some w else none }
      traction := { o.traction with st := x, values := if equal then some v else none }
      air := { o.air with source := c, values := if equal then some w else none } }
    let frames (s : State) : Nat × Nat := ((handTargets s).emitted.length, (handAir s).emitted.length)
    frames (s true false .active .blend) = (0, 0) ∧ frames (s false true .active .blend) = (0, 0) ∧
      frames (s false false .active .blend) = (1, 1) ∧ frames (s false false .released .test) = (0, 0) ∧
      (handTargets (s false false .released .test)).traction.values = some v ∧
      (handTargets (s false false .active .blend)).traction.list.length = 1 ∧
      (handAir (s false false .active .blend)).air.list.length = 1 := by decide +kernel

/-- A loss of each channel out of reset: its entry and the trigger's in the ring, its count and the flag. -/
theorem witness_LossesAreRecorded :
    let t := tractionLost running
    let u := airLost running
    (t.traction.st, t.recorder.ring.map TraceEntry.kind, t.retention.counts.get .tractionLosses,
        flagSet t.status.flags .linkLost) =
        (.lost, [.channel .traction (.stateChange 2), .trigger .tractionLost IncidentClass.advisory.code true], 1, true) ∧
      (u.air.st, u.recorder.ring.map TraceEntry.kind, u.retention.counts.get .airLosses,
        flagSet u.status.flags .linkLost) =
        (.lost, [.channel .air (.stateChange 2), .trigger .airLost IncidentClass.serious.code true], 1, true) := by
  decide +kernel

/-- A scan in progress: its next slot, its entries that await repair, and a slot and a footer read as closed with class 1. -/
def scanningAt (next : Nat) (repairs : List Repair) : State :=
  { scanned [] with
    path := activePath.path
    recorder := { (scanned []).recorder with
      scan := some ⟨[], next, repairs, byte1 2 ++ zeros 3 ++ byte4 77, 1⟩ } }

/-- The parts on the port, in the waiting claim and not yet asked for, after a response to a burst of a part. -/
def askedBy (c : Instr) (p : Part) (s : State) : Option Part × Option Part × Option (List Part) :=
  match exec c (storing (burstOf p []) s) with
  | .next t =>
    (match t.arb.port with
      | some (.store b) => some b.part
      | _ => none,
      t.arb.store.map StoreBurst.part, t.recorder.running.map Running.parts)
  | _ => (none, none, none)

/-- A scan step on a free store side: the header of a scan that begins, the entries of its first and its last burst with
one OPEN entry and with none, and the last burst of a footer, with another repair, with more entries and with neither. -/
theorem witness_ScansAskForTheirNextParts :
    let r (k : Nat) : Repair := ⟨k, ⟨.opened, 77, 2, false⟩⟩
    let beat (x : EntryState) : BeatData := beatOf (SlotEntry.bytes ⟨x, 77, 2, false⟩)
    let fixed (k : Nat) : Option Part := some (.repairEntry k ⟨.closed, 77, 1, true⟩)
    ∀ p ∈ [(Instr.scanHeaderRead (toBeats 8 running.currentHeader), Part.scanHeader, scanningAt 0 [],
        (some (Part.scanEntries 0), none, some [])),
      (.scanEntryRead [beat .closed, beat .opened], .scanEntries 0, scanningAt 0 [],
        (some (.scanSlotHeader 1), some (.scanFooter 1), some [])),
      (.scanEntryRead [beat .closed], .scanEntries 48, scanningAt 48 [], (some (.scanEntries 56), none, some [])),
      (.scanEntryRead [beat .closed], .scanEntries 56, scanningAt 56 [], (none, none, some [])),
      (.storeBurstResponse [], .scanFooter 3, scanningAt 8 [r 3, r 4],
        (fixed 3, some (.scanSlotHeader 4), some [.scanFooter 4])),
      (.storeBurstResponse [], .scanFooter 3, scanningAt 8 [r 3], (fixed 3, some (.scanEntries 8), some [])),
      (.storeBurstResponse [], .scanFooter 3, scanningAt 64 [r 3], (fixed 3, none, some []))],
      askedBy p.1 p.2.1 p.2.2.1 = p.2.2.2 := by decide +kernel

/-- The entries in the ring after a command. -/
def entriesOf (c : Instr) (s : State) : List TraceKind :=
  match exec c s with
  | .next t => t.recorder.ring.map TraceEntry.kind
  | _ => []

/-- The count of a condition after a command. -/
def countAfter (h : Health) (c : Instr) (s : State) : Nat :=
  match exec c s with
  | .next t => t.retention.counts.get h
  | _ => 0

/-- A core reset with torn and present beats in both buffers and a held value, and one under the power-on reset. -/
theorem witness_CoreResetClearsTheMarks :
    let torn (a : Assembly) : Assembly := { a with present := a.present.map fun _ => true, torn := true }
    let s : State := { running with
      decoder := { running.decoder with asm := torn running.decoder.asm }
      demand := { running.demand with asm := torn running.demand.asm }
      blend := { running.blend with held := ⟨some 5, none⟩, handedTargets := some (Six.all 1) } }
    (match exec .coreReset s with
      | .next t => (t.decoder.asm.torn, t.demand.asm.present.any id, t.blend.held, t.blend.handedTargets)
      | _ => (true, true, s.blend.held, none)) = (false, false, ⟨none, none⟩, none) ∧
      (inReset true false).inputs = ⟨true, false, false⟩ ∧
      (match exec .coreReset (inReset true false) with
        | .next t => t.inputs
        | _ => ⟨true, false, false⟩) = ⟨true, true, false⟩ := by decide +kernel

/-- A grid that stays, and one that moves to each state out of reset, with what the move reports. -/
theorem witness_GridMovesAreReported :
    let after (g : GridState) (t : Nat) : List TraceKind × Nat × Nat :=
      let u := evalGrid .a (brakingAt g t)
      (u.recorder.ring.map TraceEntry.kind, u.retention.counts.get .gridDerates, u.retention.counts.get .gridTrips)
    (brakingAt .cool 100).anyReset = false ∧ after .cool 559 = ([], 0, 0) ∧
      after .derated 559 = ([.grid .a .derated .cool 559], 0, 0) ∧
      after .cool 560 = ([.grid .a .cool .derated 560], 1, 0) ∧
      after .cool 640 = ([.grid .a .cool .tripped 640, .trigger (.gridTrip .a) 2 true], 0, 1) ∧
      flagSet (evalGrid .a (brakingAt .cool 560)).status.flags .grid = true := by decide +kernel

/-- Each expiry of the demand out of reset, with a grace period and with none: its entries and the one penalty. -/
theorem witness_PenaltiesAreReported :
    let none' : State := { running with params := { running.params with grace := 0 } }
    (entriesOf .freshnessTimerExpiry (demandIn .live running)).take 1 = [.dstate .live .stale .freshness] ∧
      countAfter .penalties .freshnessTimerExpiry (demandIn .live running) = 0 ∧
      (entriesOf .freshnessTimerExpiry (demandIn .live none')).take 2 =
        [.dstate .live .stale .freshness, .dstate .stale .penalty .penaltyStale] ∧
      (entriesOf .graceTimerExpiry (demandIn .stale running)).take 1 = [.dstate .stale .penalty .penaltyStale] ∧
      (∀ p ∈ [(Instr.freshnessTimerExpiry, demandIn .live none'), (.graceTimerExpiry, demandIn .stale running)],
        (entriesOf p.1 p.2).getLast? = some (.trigger .penaltyStale 1 true) ∧ countAfter .penalties p.1 p.2 = 1) ∧
      (∀ x ∈ [DemandState.live, .stale], let s := inboxed (completed (zeros 64)) x 2
        .dstate x .penalty .penaltyChecks ∈ entriesOf .demandRecord s ∧
          (entriesOf .demandRecord s).getLast? = some (.trigger .penaltyChecks 1 true) ∧
          countAfter .penalties .demandRecord s = 1) := by decide +kernel

/-- Both resets out of reset, the emergency's with and without a penalty still latched; and a reload. -/
theorem witness_ReturnsOfTheDemandAreTraced :
    let p := inSlot (directed .resetPenalty [] none 0) (standingStill (demandIn .penalty running))
    let e := inSlot (directed .resetEmergency [] none 0) (standingStill (demandIn .emergency running))
    let both : State := { e with demand := { e.demand with penaltyLatch := true } }
    let s := checkedState .reload goodRecord (standingStill activePath)
    (entriesOf .resetPenalty p).take 1 = [.dstate .penalty .noDemand .resetPenalty] ∧
      (entriesOf .resetEmergency e).take 1 = [.dstate .emergency .noDemand .resetEmergency] ∧
      (entriesOf .resetEmergency both).take 1 = [.dstate .emergency .penalty .resetEmergency] ∧
      p.anyReset = false ∧ s.anyReset = false ∧
      ∀ lf ∈ [true, false],
        (entriesOf (.configInstall lf) s).take 1 = [.dstate .noDemand .noDemand .reload] := by decide +kernel

/-- A line's request of the emergency, ahead of a recompute of the event and on its own; and states in which it has no
effect. -/
theorem witness_EmergencyLinesLatchTheDemand :
    ∀ ahead ∈ [true, false], let t := emergencyLineRequest ahead (demandIn .live running)
      running.anyReset = false ∧ (demandIn .live running).demand.st ≠ .emergency ∧
        (t.recorder.ring.map TraceEntry.kind).take 1 = [.dstate .live .emergency .emergencyLine] ∧
        (∀ x ∈ t.recorder.ring.map TraceEntry.kind, x ≠ .trigger .emergencyDemand 1 true) ∧
        flagSet t.status.flags .emergency = true ∧ t.demand.emergencyLatch = true ∧
        (inReset true false).anyReset = true ∧ (demandIn .emergency running).demand.st = .emergency := by decide +kernel

/-- A truck's entry to DUMP with the axles that slide, and the entry of one truck to FAULT. -/
theorem witness_SlideMovesAreReported :
    let e : SlideEvent := { SlideEvent.quiet with sample := true }
    let t := slideRun e (slidingAt 400 .adhering .apply)
    let f := slideRun { SlideEvent.quiet with release := some .b } (slidingAt 400 .sliding .dump)
    (slidingAt 400 .adhering .apply).anyReset = false ∧
      t.recorder.ring.map TraceEntry.kind =
        (allAxles.map fun x => .axle x .adhering .sliding (some 100) (.speed 400)) ++
          [.truck .a .apply .dump (some 100), .truck .b .apply .dump (some 100)] ∧
      flagSet t.status.flags .slide = true ∧ t.retention.counts.get .slideEpisodes = 2 ∧
      f.recorder.ring.map TraceEntry.kind = [.truck .b .dump .fault (some 100), .trigger (.slideTimeout .b) 1 true] ∧
      flagSet f.status.flags .slideFault = true ∧ f.retention.counts.get .slideFaults = 1 := by decide +kernel

/-- The speed link's entry to ACTIVE from STARTING and LOST, a sample in ACTIVE, and its loss. -/
theorem witness_SpeedLinkChangesAreTraced :
    let s (x : LinkState) : State := { sampledAt none none with
      speed := { (sampledAt none none).speed with link := x, sensor := .running 5 } }
    let sample := Instr.speedSample (sampleFrame 2 40 (Six.all 0))
    (∀ x ∈ [LinkState.starting, .lost], (entriesOf sample (s x)).take 1 = [.channel .speed (.stateChange 1)]) ∧
      .channel .speed (.stateChange 1) ∉ entriesOf sample (s .active) ∧
      (∀ x ∈ [LinkState.starting, .active], (s x).speed.link ≠ .lost ∧
        (entriesOf .sensorTimerExpiry (s x)).take 1 = [.channel .speed (.stateChange 2)] ∧
        (entriesOf .sensorTimerExpiry (s x)).getLast? = some (.trigger .sensorLost 2 true)) := by decide +kernel

/-- The ends of a handshake and the directives that begin one, out of reset. -/
theorem witness_HandshakesAreTraced :
    let x := directed .releaseTraction [] (some .maintenance) 0x55
    let y := directed .resumeTraction [] none 0
    let s := standingStill (inSlot x (keyedPart (outstanding [1])))
    (entriesOf .releaseTraction s).take 1 = [.channel .traction (.stateChange 3)] ∧
      (entriesOf .resumeTraction (inSlot y (shaking .released .directive))).take 1 =
        [.channel .traction (.stateChange 5)] ∧
      (entriesOf (.releaseAck (frameBytes 0x22 0 (byte1 5))) (shaking .releasing .directive)).take 1 =
        [.channel .traction (.stateChange 4)] ∧
      (entriesOf .handshakeTimerExpiry (shaking .releasing .directive)).take 1 =
        [.channel .traction (.stateChange 1)] ∧
      (∀ o ∈ [HsOrigin.directive, .automatic], let r := inSlot y (shaking .resuming o)
        (entriesOf .handshakeTimerExpiry r).take 1 = [.channel .traction (.stateChange 2)] ∧
          .trigger .tractionLost 2 true ∈ entriesOf .handshakeTimerExpiry r ∧
          countAfter .tractionLosses .handshakeTimerExpiry r = 1) := by decide +kernel

/-- A test that starts; a phase that passes, with a channel that the same report restores and with one that was ACTIVE;
and a report that does not pass. -/
theorem witness_TestPhasesAreTraced :
    let x := directed .testAirPath [] none 0
    let f (a b : Nat) : List Byte := frameBytes 0x41 0 (byte1 5 ++ byte2 a ++ byte2 b)
    let s (y : LinkState) : State := { testing .aApply with air := { (testing .aApply).air with
      list := (outstanding [5]).air.list, st := y, good := 1 } }
    (entriesOf .testAirPath (inSlot x (standingStill (outstanding [1])))).take 1 = [.test .aApply .started] ∧
      (s .active).params.restoreCount = 2 ∧
      (entriesOf (.airReport (f 230 0)) (s .starting)).take 2 =
        [.channel .air (.stateChange 1), .test .aApply .phasePassed] ∧
      (entriesOf (.airReport (f 230 0)) (s .active)).take 1 = [.test .aApply .phasePassed] ∧
      .test .aApply .phasePassed ∉ entriesOf (.airReport (f 229 0)) (s .active) := by decide +kernel

/-! ### What meets the hypotheses of the statements: layouts and invariants -/

theorem witness_ChecksumsCoverTheirRuns :
    ((slice 0 16 [1]).map BitVec.toNat).sum % 256 ≠ 0 ∧ ((slice 0 512 [255]).map BitVec.toNat).sum % 256 ≠ 0 ∧
      ((zeros 64).map BitVec.toNat).sum % 256 = 0 := by decide +kernel

/-- The greatest values that the fields admit. -/
theorem witness_EntriesAndFramesReadBackAsWritten :
    (∀ x ∈ [EntryState.closed, .interrupted, .opened],
      (entryOf 0 0 (SlotEntry.bytes ⟨x, 4294967295, 255, true⟩)) = ⟨x, 4294967295, 255, true⟩) ∧
      judgeFrame .air (frameBytes 0x41 255 (byte1 255 ++ byte2 600 ++ byte2 600)) =
        some (.airReport 255 ⟨600, 600⟩) ∧
      judgeFrame .speed (sampleFrame 65535 65535 (Six.all 65535)) =
        some (.speedSample 65535 65535 (Six.all 65535)) := by decide +kernel

/-- A part whose next command is a tick. -/
def ticking (s : State) : State := { s with pending := [.millisecondTick] }

theorem capacities_ticking : Capacities (ticking running) where
  ring := by decide
  traction := by decide
  air := by decide
  storeWait := by decide
  passWait := by decide
  failed := by decide
  locked := by decide
  causes := fun i (h : none = some i) => nomatch h
  others := fun p (h : none = some p) => nomatch h
  directiveBuffer := ⟨rfl, rfl⟩
  demandBuffer := ⟨rfl, rfl⟩

theorem witness_EveryStepKeepsTheCapacities :
    Capacities (ticking running) ∧ ∃ t, step (ticking running) = .next t := ⟨capacities_ticking, _, rfl⟩

theorem witness_EveryStepKeepsTheDemandSound :
    DemandSound (ticking (demandIn .live running)) ∧ ∃ t, step (ticking (demandIn .live running)) = .next t :=
  ⟨⟨by decide, by decide, by decide, by decide, by decide, fun _ => rfl, by decide⟩, _, rfl⟩

theorem slideSound_ticking : SlideSound (ticking running) where
  recovery := fun x => by cases x <;> decide
  hold := fun t => by cases t <;> decide
  reapply := fun t => by cases t <;> decide
  release := fun t => by cases t <;> decide

theorem witness_EveryStepKeepsTheSlideTimersSound :
    SlideSound (ticking running) ∧ ∃ t, step (ticking running) = .next t := ⟨slideSound_ticking, _, rfl⟩

theorem configSound_ticking : ConfigSound (ticking activePath) where
  candidate := fun (h : false = true) => nomatch h
  fraction := by decide
  order := by decide
  active := by decide
  apart := fun ws h => by
    cases h
    decide

theorem pressureBound_ticking : PressureBound (ticking activePath) where
  commanded := fun t => by cases t <;> decide
  penalty := fun _ h => absurd h (by decide)

theorem witness_EveryStepKeepsThePressureLaw :
    ConfigSound (ticking activePath) ∧ PressureBound (ticking activePath) ∧
      ∃ t, step (ticking activePath) = .next t := ⟨configSound_ticking, pressureBound_ticking, _, rfl⟩

theorem incidentSound_ticking : IncidentSound (ticking (incidentIn .capturing someIncident running)) where
  opened := by decide
  number := fun i h => by
    cases h
    decide

theorem witness_EveryStepKeepsTheIncidentsSound :
    IncidentSound (ticking (incidentIn .capturing someIncident running)) ∧
      ∃ t, step (ticking (incidentIn .capturing someIncident running)) = .next t := ⟨incidentSound_ticking, _, rfl⟩

theorem witness_EveryStepKeepsResetAtRest :
    ResetSound (inReset true true) ∧ ∃ t, step (inReset true true) = .next t :=
  ⟨⟨fun _ => atRest_inReset _ _, fun _ => ⟨rfl, rfl, rfl⟩⟩, _, rfl⟩

/-! ### Single steps -/

/-- From State.reset the release of the power-on reset asks memory for the anchor block. -/
theorem test_theFirstCommandReadsTheAnchor :
    (match step { State.reset with pending := [.powerOnResetRelease false false true] } with
      | .next t => t.emitted.getLast?
      | _ => none) = some (.memory (.read 0x00008000 2)) := by decide +kernel

/-- A good anchor read brings the configuration read of eight bursts. -/
theorem test_theAnchorBringsTheFirstConfigurationBurst :
    (match exec (.anchorReadResponse .ok (toBeats 2 (anchorBytes 0x9000))) (loading .anchor running) with
      | .next t => t.emitted
      | _ => []) = [.memory (.read 0x9000 8)] := by decide +kernel

/-- The install step of the default record makes the path ACTIVE and asks for the store's directory header. -/
theorem test_theInstallStepBeginsTheScan :
    (match exec (.configInstall true) (checkedState .start goodRecord running) with
      | .next t => (t.path.st, t.loader.st, t.recorder.store, t.emitted.getLast?)
      | _ => (.transparent, .idle, .unchecked, none)) =
      (.active, .scanning, .scanning, some (.memory (.read 0x400000 8))) := by decide +kernel

/-- Example of section 1.5: the arbiter under store priority HIGH with W of 2 grants the waiting PASS claim third. -/
theorem test_theWaitLimitForcesAPass :
    let p : Params := { running.params with storeHigh := true, waitLimit := 2 }
    let s (n : Nat) : State := { claiming true 0 n with params := p }
    (arbitrate (s 1)).arb.port = some (.store (burstOf .headerOnly [])) ∧ (arbitrate (s 1)).arb.passWait = 2 ∧
      (arbitrate (s 2)).arb.port = some (.pass (.read 0 1)) ∧ (arbitrate (s 2)).arb.passWait = 0 := by decide +kernel

end Sys2Proof.Tests
end

section
/-! Proofs about the blend unit: a grid's evaluation and what its move reports (R72 to R74), and an axle's dynamic target
by its slide state (R62 to R65). -/

namespace Sys2Proof.Machine

variable {s : State} {k j : Truck} {x : Axle}

/-! ### Where a grid moves (R73) -/

theorem Pair.set_get_self {α : Type} (p : Pair α) (t : Truck) : p.set t (p.get t) = p := by cases t <;> rfl

/-- The state that the table gives a truck's grid at its evaluation (R73). -/
def State.nextGrid (s : State) (k : Truck) : GridState := gridNext s.params (s.blend.grid.get k) (s.gridTemp k)

theorem nextGrid_of_not_tripped (h : s.blend.grid.get k = .cool ∨ s.blend.grid.get k = .derated) :
    s.nextGrid k = if s.params.trip ≤ s.gridTemp k then .tripped
      else if s.params.derate ≤ s.gridTemp k then .derated else .cool := by
  rcases h with cool | derated
  · rw [State.nextGrid, cool]
    rfl
  · rw [State.nextGrid, derated]
    rfl

theorem nextGrid_of_tripped (h : s.blend.grid.get k = .tripped) :
    s.nextGrid k = if s.gridTemp k ≤ s.params.resetTemp then .cool else .tripped := by
  rw [State.nextGrid, h]
  rfl

/-- The state with one grid moved, before the requests of the move. -/
def State.setGrid (s : State) (k : Truck) (g : GridState) : State :=
  { s with blend := { s.blend with grid := s.blend.grid.set k g } }

theorem evalGrid_of_stays (h : s.nextGrid k = s.blend.grid.get k) : evalGrid k s = s :=
  if_pos (beq_iff_eq.mpr h)

theorem evalGrid_of_moves (h : s.nextGrid k ≠ s.blend.grid.get k) :
    evalGrid k s =
      gridRequests k (s.blend.grid.get k) (s.nextGrid k) (s.gridTemp k) (s.setGrid k (s.nextGrid k)) :=
  if_neg fun e => h (beq_iff_eq.mp e)

theorem gridRequests_blend (k : Truck) (o n : GridState) (v : Nat) (s : State) :
    (gridRequests k o n v s).blend = s.blend :=
  (gridRequests_frame k o n v s).same .blend (by decide)

/-- One evaluation moves the truck's own grid as the table gives, and the grids in no other way. -/
theorem evalGrid_grid (k : Truck) (s : State) : (evalGrid k s).blend.grid = s.blend.grid.set k (s.nextGrid k) := by
  by_cases h : s.nextGrid k = s.blend.grid.get k
  · rw [evalGrid_of_stays h, h, Pair.set_get_self]
  · rw [evalGrid_of_moves h, gridRequests_blend]
    rfl

theorem evalGrid_get_self (k : Truck) (s : State) : (evalGrid k s).blend.grid.get k = s.nextGrid k := by
  rw [evalGrid_grid, Pair.get_set_self]

theorem evalGrid_get_ne (s : State) (h : j ≠ k) : (evalGrid k s).blend.grid.get j = s.blend.grid.get j := by
  rw [evalGrid_grid, Pair.get_set_ne _ _ h]

/-! ### What a move reports (R74) -/

/-- The state after the GRID entry of a move, which every move makes first. -/
def State.gridEntered (s : State) (k : Truck) (g : GridState) : State :=
  trace (.grid k (s.blend.grid.get k) g (s.gridTemp k)) (s.setGrid k g)

theorem gridEntered_frame (s : State) (k : Truck) (g : GridState) :
    Frame (.blend :: tracePieces) s (s.gridEntered k g) :=
  ((setBlend_frame _ s).mono (by decide)).trans ((trace_frame ..).mono (by decide))

theorem gridEntered_blend (s : State) (k : Truck) (g : GridState) :
    (s.gridEntered k g).blend = { s.blend with grid := s.blend.grid.set k g } :=
  trace_blend ..

theorem gridEntered_traced (k : Truck) (g : GridState) (h : s.anyReset = false) :
    Traced [.grid k (s.blend.grid.get k) g (s.gridTemp k)] s (s.gridEntered k g) :=
  trace_traced (s := s.setGrid k g) _ h

theorem gridEntered_anyReset (s : State) (k : Truck) (g : GridState) : (s.gridEntered k g).anyReset = s.anyReset :=
  (gridEntered_frame s k g).anyReset_eq (by decide)

theorem evalGrid_to_cool (h : s.nextGrid k ≠ s.blend.grid.get k) (new : s.nextGrid k = .cool) :
    evalGrid k s = s.gridEntered k .cool := by
  rw [evalGrid_of_moves h, new]
  rfl

theorem evalGrid_to_derated (h : s.nextGrid k ≠ s.blend.grid.get k) (new : s.nextGrid k = .derated) :
    evalGrid k s = countHealth .gridDerates (setFlag .grid (s.gridEntered k .derated)) := by
  rw [evalGrid_of_moves h, new]
  rfl

theorem evalGrid_to_tripped (h : s.nextGrid k ≠ s.blend.grid.get k) (new : s.nextGrid k = .tripped) :
    evalGrid k s =
      raise (.gridTrip k) .advisory (countHealth .gridTrips (setFlag .grid (s.gridEntered k .tripped))) := by
  rw [evalGrid_of_moves h, new]
  rfl

/-- A GRID_TRIP trigger is taken by every recorder: only PATH_VIOLATION may be passed over (R153). -/
theorem takesTrigger_gridTrip (k : Truck) (s : State) : s.takesTrigger (.gridTrip k) = true := rfl

/-- The trigger of a trip out of reset, behind its flag and its count. -/
theorem gridTrip_raised {u : State} (k : Truck) (h : u.anyReset = false) :
    Raised (.gridTrip k) .advisory (countHealth .gridTrips (setFlag .grid u))
      (raise (.gridTrip k) .advisory (countHealth .gridTrips (setFlag .grid u))) :=
  raise_raised _ _ (by simpa using h) (takesTrigger_gridTrip k _)

/-- Settles O26: the grids after an evaluation are the table's (`evalGrid_grid`), and a move out of reset is its GRID
entry with what each new state adds to it. -/
theorem gridMovesFollowTheTable : Obligations.GridMovesFollowTheTable := by
  intro s k
  dsimp only
  rw [evalGrid_get_self]
  refine ⟨nextGrid_of_not_tripped, nextGrid_of_tripped, fun j => evalGrid_get_ne s, evalGrid_of_stays,
    fun moves out => ?_⟩
  have entered : (s.gridEntered k (s.nextGrid k)).anyReset = false := (gridEntered_anyReset ..).trans out
  refine ⟨s.gridEntered k (s.nextGrid k), gridEntered_frame .., gridEntered_blend .., gridEntered_traced k _ out,
    fun cool => ?_, fun derated => ?_, fun tripped => ?_⟩
  · rw [evalGrid_to_cool moves cool, cool]
  · refine ⟨_, setFlag_flagged .grid entered, ?_⟩
    rw [evalGrid_to_derated moves derated, derated]
  · refine ⟨_, setFlag_flagged .grid entered, ?_⟩
    rw [evalGrid_to_tripped moves tripped, tripped]
    exact gridTrip_raised k (tripped ▸ entered)

/-! ### An axle's target by its slide state (R62, R65) -/

theorem blendValues_target (s : State) (x : Axle) : s.blendValues.targets.get x = s.target x := Six.get_ofFn ..

theorem zeroed_of_sliding (h : s.slide.axles.get x = .sliding) : s.zeroed x = true := by
  simp [State.zeroed, h]

theorem target_of_zeroed (h : s.zeroed x = true) : s.target x = 0 := if_pos h

theorem target_of_not_zeroed (h : s.zeroed x = false) :
    s.target x = s.recovered x (s.derated x (min (s.base x) (s.capability x))) :=
  if_neg (by simp [h])

theorem recovered_of_recovering (h : s.slide.axles.get x = .recovering) (v : Nat) :
    s.recovered x v = v * s.params.recoveryFraction / 100 :=
  if_pos (beq_iff_eq.mpr h)

theorem recovered_of_not_recovering (h : s.slide.axles.get x ≠ .recovering) (v : Nat) : s.recovered x v = v :=
  if_neg fun e => h (beq_iff_eq.mp e)

theorem percent_le_self (v : Nat) {f : Nat} (h : f ≤ 100) : v * f / 100 ≤ v :=
  Nat.div_le_of_le_mul (by simpa [Nat.mul_comm] using Nat.mul_le_mul_left v h)

/-- Settles O27: SLIDING is one of R62's reasons for no target; of the other axles only a RECOVERING one has its
target reduced. -/
theorem recoveringAxleHasAReducedTarget : Obligations.RecoveringAxleHasAReducedTarget := by
  intro s x
  dsimp only
  rw [blendValues_target]
  refine ⟨fun sliding => target_of_zeroed (zeroed_of_sliding sliding), fun braked recovering => ?_,
    fun braked adhering => ?_⟩
  · rw [target_of_not_zeroed braked, recovered_of_recovering recovering]
    refine ⟨rfl, fun all => ?_, percent_le_self _⟩
    rw [all, Nat.mul_div_cancel _ (by decide)]
  · rw [target_of_not_zeroed braked, recovered_of_not_recovering (by simp [adhering])]

end Sys2Proof.Machine
end

section
/-! Proofs about the retention and key unit: the key check with its refusals and the directives it guards (R183 to R187,
R195), and the health counts with what a threshold brings (R192 to R194). -/

namespace Sys2Proof.Machine

variable {s t : State} {c : Instr} {d : DirectiveCode} {x : Slot} {k : KeyName} {v : BitVec 64} {r : Retention}
  {a : DirResult} {f : State → State} {h : Health}

/-! ### What leaves the retention unit as it was -/

@[simp] theorem arbitrate_retention (s : State) : (arbitrate s).retention = s.retention :=
  (arbitrate_frame s).retention_eq (by decide) (by decide)

@[simp] theorem arbitrate_decoder (s : State) : (arbitrate s).decoder = s.decoder :=
  (arbitrate_frame s).decoder_eq (by decide) (by decide) (by decide)

@[simp] theorem setFlag_retention (f : EventFlag) (s : State) : (setFlag f s).retention = s.retention :=
  (setFlag_frame f s).retention_eq (by decide) (by decide)

@[simp] theorem trace_retention (e : TraceKind) (s : State) : (trace e s).retention = s.retention :=
  (trace_frame e s).retention_eq (by decide) (by decide)

@[simp] theorem raise_retention (y : TriggerCause) (n : IncidentClass) (s : State) :
    (raise y n s).retention = s.retention :=
  (raise_frame y n s).retention_eq (by decide) (by decide)

@[simp] theorem trigger_retention (y : TriggerCause) (s : State) : (trigger y s).retention = s.retention :=
  (trigger_frame y s).retention_eq (by decide) (by decide)

@[simp] theorem finish_retention (c : DirectiveCode) (a : DirResult) (s : State) :
    (finish c a s).retention = s.retention :=
  (finish_frame c a s).retention_eq (by decide) (by decide)

/-- A directive's final answer, with the port granted behind it. -/
theorem finish_ends (slot : s.decoder.slot = some x) (code : x.code = d) :
    Answered (arbitrate (finish d a s)) x a ∧ (arbitrate (finish d a s)).retention = s.retention := by
  refine ⟨?_, by simp⟩
  rw [Answered, arbitrate_decoder]
  exact finish_answers slot code

theorem Awaits.code_eq (awaits : Awaits s d x) : x.code = d := awaits.2.1

/-! ### The key check (R183) -/

/-- The first two refusals pass a directive: the part is not frozen, or the directive is RELEASE TRACTION, and the lock
is not set. -/
def Retention.admits (r : Retention) (d : DirectiveCode) : Prop :=
  ¬(r.frozen = true ∧ d ≠ .releaseTraction) ∧ r.lock = false

theorem admits_of_clear (thawed : r.frozen = false) (unlocked : r.lock = false) : r.admits d :=
  ⟨by simp [thawed], unlocked⟩

theorem keyCheck_of_frozen (frozen : r.frozen = true ∧ x.code ≠ .releaseTraction) :
    keyCheck r x = .refused .frozen :=
  if_pos (by simpa using frozen)

theorem keyCheck_of_locked (thawed : ¬(r.frozen = true ∧ x.code ≠ .releaseTraction)) (lock : r.lock = true) :
    keyCheck r x = .refused .locked :=
  (if_neg (by simpa using thawed)).trans (if_pos lock)

/-- Past the first two refusals the named key decides. -/
theorem keyCheck_of_admits (open' : r.admits x.code) (named : x.keyName = some k) :
    keyCheck r x = keyCompare r x k := by
  obtain ⟨thawed, unlocked⟩ := open'
  rw [keyCheck, if_neg (by simpa using thawed), if_neg (by simp [unlocked]), named, Option.getD_some]

theorem keyCompare_of_unset (unset : r.keyOf k = none) :
    keyCompare r x k = if x.code = .setKey then .accepted false else .refused .unset := by
  simp [keyCompare, unset]

theorem keyCompare_of_set (set : r.keyOf k = some v) :
    keyCompare r x k = if x.code.accepts r.strict k = true ∧ v = x.key then .accepted true else .refused .key := by
  simp [keyCompare, set]

theorem keyCheck_refuses_unset (open' : r.admits x.code) (named : x.keyName = some k) (unset : r.keyOf k = none)
    (other : x.code ≠ .setKey) : keyCheck r x = .refused .unset := by
  rw [keyCheck_of_admits open' named, keyCompare_of_unset unset, if_neg other]

/-- The key named is not one that the directive accepts at the level, or the value offered is another. -/
theorem keyCheck_refuses_key (open' : r.admits x.code) (named : x.keyName = some k) (set : r.keyOf k = some v)
    (wrong : x.code.accepts r.strict k = false ∨ v ≠ x.key) : keyCheck r x = .refused .key := by
  rw [keyCheck_of_admits open' named, keyCompare_of_set set, if_neg]
  rintro ⟨accepted, same⟩
  exact wrong.elim (fun barred => Bool.noConfusion (barred.symm.trans accepted)) fun differs => differs same

/-- The key named is SET, accepted at the level, and offered with its value. -/
theorem keyCheck_accepts (open' : r.admits x.code) (named : x.keyName = some k) (set : r.keyOf k = some x.key)
    (accepted : x.code.accepts r.strict k = true) : keyCheck r x = .accepted true := by
  rw [keyCheck_of_admits open' named, keyCompare_of_set set, if_pos ⟨accepted, rfl⟩]

/-! ### What a key-bearing directive's command does -/

/-- The command of each key-bearing directive is the key check in front of the directive's owner. -/
theorem exec_eq_keyed (mem : (c, d) ∈ directiveCommands) (bearing : d.keyBearing = true) :
    ∃ owner : Slot → State → State, ∀ s, exec c s = run (onDirective d fun x => keyed x (owner x)) s := by
  cases d with
  | eraseStore =>
    obtain rfl : c = .eraseStore := by simpa [directiveCommands] using mem
    exact ⟨eraseStore, fun _ => rfl⟩
  | releaseIncident =>
    obtain rfl : c = .releaseIncident := by simpa [directiveCommands] using mem
    exact ⟨changeRetention .releaseIncident false, fun _ => rfl⟩
  | setKey =>
    obtain rfl : c = .setKey := by simpa [directiveCommands] using mem
    exact ⟨setKey, fun _ => rfl⟩
  | setRetentionLevel =>
    obtain rfl : c = .setRetentionLevel := by simpa [directiveCommands] using mem
    exact ⟨setRetentionLevel, fun _ => rfl⟩
  | resetAttributes =>
    obtain rfl : c = .resetAttributes := by simpa [directiveCommands] using mem
    exact ⟨fun _ => resetHealth, fun _ => rfl⟩
  | releaseTraction =>
    obtain rfl : c = .releaseTraction := by simpa [directiveCommands] using mem
    exact ⟨fun _ => releaseTraction, fun _ => rfl⟩
  | _ => exact absurd bearing (by decide)

/-- A directive's command on the directive that it awaits. -/
theorem run_onDirective {g : Slot → State → State} (awaits : Awaits s d x) :
    run (onDirective d g) s = .next (arbitrate (g x { s with emitted := [] })) := by
  rw [run_next, onDirective_on (s := { s with emitted := [] }) awaits]

theorem keyed_of_refused (refused : keyCheck s.retention x = .refused a) (other : a ≠ .key) :
    keyed x f s = finish x.code a s := by
  simp [keyed, refused, other]

/-- R185: a refusal KEY is counted. -/
theorem keyed_of_key (refused : keyCheck s.retention x = .refused .key) :
    keyed x f s = finish x.code .key { s with retention := s.retention.failedAttempt } := by
  simp [keyed, refused]

/-- R185: an accepted comparison clears the count. -/
theorem keyed_of_accepted {compared : Bool} (accepted : keyCheck s.retention x = .accepted compared) :
    keyed x f s =
      f { s with retention := if compared then { s.retention with failed := 0 } else s.retention } := by
  cases compared <;> simp [keyed, accepted]

/-- A refusal other than KEY answers and leaves the unit as it was. -/
theorem keyed_ends_refused (slot : s.decoder.slot = some x) (refused : keyCheck s.retention x = .refused a)
    (other : a ≠ .key) :
    Answered (arbitrate (keyed x f s)) x a ∧ (arbitrate (keyed x f s)).retention = s.retention := by
  rw [keyed_of_refused refused other]
  exact finish_ends slot rfl

theorem keyed_ends_key (slot : s.decoder.slot = some x) (refused : keyCheck s.retention x = .refused .key) :
    Answered (arbitrate (keyed x f s)) x .key ∧
      (arbitrate (keyed x f s)).retention = s.retention.failedAttempt := by
  rw [keyed_of_key refused]
  exact finish_ends (s := { s with retention := s.retention.failedAttempt }) slot rfl

/-- An accepted directive whose owner changes the retention unit and answers DONE. -/
theorem accepted_takes_effect {owner : Slot → State → State} {effect : Retention → Retention} {compared : Bool}
    (awaits : Awaits s d x) (command : exec c s = run (onDirective d fun x => keyed x (owner x)) s)
    (accepted : keyCheck s.retention x = .accepted compared)
    (owns : ∀ u, owner x u = finish d .done { u with retention := effect u.retention }) :
    ∃ t, exec c s = .next t ∧ Answered t x .done ∧
      t.retention = effect (if compared then { s.retention with failed := 0 } else s.retention) := by
  refine ⟨_, command.trans (run_onDirective awaits), ?_⟩
  rw [keyed_of_accepted (s := { s with emitted := [] }) accepted, owns]
  obtain ⟨slot, code, -⟩ := awaits
  exact finish_ends (s := { s with retention := _, emitted := [] }) slot code

/-! ### The accepted directives (R186, R187, R195) -/

theorem keyOf_setKey (r : Retention) (k j : KeyName) (v : BitVec 64) :
    (r.setKey k v).keyOf j = if j = k then some v else r.keyOf j := by
  cases k <;> cases j <;> rfl

theorem setKey_failed (r : Retention) (k : KeyName) (v : BitVec 64) : (r.setKey k v).failed = r.failed := by
  cases k <;> rfl

/-- R186: SET KEY is accepted on an UNSET key without a comparison, on a SET key with its value. -/
theorem keyCheck_setKey (code : x.code = .setKey) (open' : r.admits .setKey) (named : x.keyName = some k)
    (offered : r.keyOf k = none ∨ r.keyOf k = some x.key) :
    keyCheck r x = .accepted (r.keyOf k).isSome := by
  rcases offered with unset | set
  · rw [keyCheck_of_admits (code ▸ open') named, keyCompare_of_unset unset, if_pos code, unset]
    rfl
  · rw [keyCheck_accepts (code ▸ open') named set (by rw [code]; rfl), set]
    rfl

theorem setKey_takes_effect (awaits : Awaits s .setKey x) (open' : s.retention.admits .setKey)
    (named : x.keyName = some k) (offered : s.retention.keyOf k = none ∨ s.retention.keyOf k = some x.key) :
    ∃ t, exec .setKey s = .next t ∧ Answered t x .done ∧
      (∀ j, t.retention.keyOf j =
        if j = k then some (BitVec.ofNat 64 (field 0 8 x.args)) else s.retention.keyOf j) ∧
      t.retention.failed = if s.retention.keyOf k = none then s.retention.failed else 0 := by
  obtain ⟨t, next, done, eq⟩ := accepted_takes_effect (c := .setKey) (owner := setKey)
    (effect := fun r => r.setKey (x.keyName.getD .maintenance) (BitVec.ofNat 64 (field 0 8 x.args)))
    awaits rfl (keyCheck_setKey awaits.code_eq open' named offered) fun _ => rfl
  rw [named, Option.getD_some] at eq
  refine ⟨t, next, done, fun j => ?_, ?_⟩
  · rw [eq, keyOf_setKey]
    cases s.retention.keyOf k <;> cases j <;> rfl
  · rw [eq, setKey_failed]
    cases s.retention.keyOf k <;> rfl

theorem setRetentionLevel_takes_effect (awaits : Awaits s .setRetentionLevel x)
    (open' : s.retention.admits .setRetentionLevel) (named : x.keyName = some .authority)
    (set : s.retention.authority = some x.key) :
    ∃ t, exec .setRetentionLevel s = .next t ∧ Answered t x .done ∧
      t.retention = { s.retention with strict := field 0 1 x.args == 1, failed := 0 } := by
  have code := awaits.code_eq
  exact accepted_takes_effect (effect := fun r => { r with strict := field 0 1 x.args == 1 }) awaits rfl
    (keyCheck_accepts (code ▸ open') named set (by rw [code]; rfl)) fun _ => rfl

theorem resetAttributes_takes_effect (awaits : Awaits s .resetAttributes x)
    (open' : s.retention.admits .resetAttributes) (named : x.keyName = some .maintenance)
    (set : s.retention.maintenance = some x.key) :
    ∃ t, exec .resetAttributes s = .next t ∧ Answered t x .done ∧ t.retention = { s.retention with
      counts := Eight.all 0, exceeded := Eight.all false, verdict := .sound, failed := 0 } := by
  have code := awaits.code_eq
  exact accepted_takes_effect (owner := fun _ => resetHealth)
    (effect := fun r => { r with counts := Eight.all 0, exceeded := Eight.all false, verdict := .sound }) awaits rfl
    (keyCheck_accepts (code ▸ open') named set (by rw [code]; rfl)) fun _ => rfl

/-! ### The verdict (R194) -/

theorem mem_allHealth (h : Health) : h ∈ allHealth := by cases h <;> decide

theorem verdictOf_eq_preFailure_iff (p : Eight HealthConfig) (e : Eight Bool) :
    verdictOf p e = .preFailure ↔ ∃ h, e.get h = true ∧ (p.get h).preFailure = true := by
  have any : allHealth.any (fun h => e.get h && (p.get h).preFailure) = true ↔
      ∃ h, e.get h = true ∧ (p.get h).preFailure = true := by simp [mem_allHealth]
  rw [← any, verdictOf]
  by_cases failing : allHealth.any (fun h => e.get h && (p.get h).preFailure) = true
  · simp only [failing, if_true]
  · rw [if_neg failing]
    split <;> simp [failing]

theorem verdictOf_eq_sound_iff (p : Eight HealthConfig) (e : Eight Bool) :
    verdictOf p e = .sound ↔ ∀ h, e.get h = false := by
  constructor
  · intro sound h
    cases exceeded : e.get h with
    | false => rfl
    | true =>
      have any : allHealth.any (fun h => e.get h) = true := List.any_eq_true.mpr ⟨h, mem_allHealth h, exceeded⟩
      rw [verdictOf, any] at sound
      split at sound <;> cases sound
  · intro clear
    simp [verdictOf, clear]

theorem verdictShown_of_eq (eq : t.retention.verdict = verdictOf t.params.health t.retention.exceeded) :
    VerdictShown t :=
  ⟨eq ▸ verdictOf_eq_preFailure_iff .., eq ▸ verdictOf_eq_sound_iff ..⟩

/-! ### A health count (R192, R193) -/

/-- The state with one more in a health count, before what its threshold brings. -/
def State.counted (s : State) (h : Health) : State :=
  { s with retention := { s.retention with
    counts := s.retention.counts.set h (satAdd 65535 (s.retention.counts.get h)) } }

/-- One more in a health count takes its status from CLEAR to EXCEEDED. -/
def State.reaches (s : State) (h : Health) : Prop :=
  s.retention.exceeded.get h = false ∧ (s.params.health.get h).threshold ≠ 0 ∧
    (s.params.health.get h).threshold ≤ satAdd 65535 (s.retention.counts.get h)

/-- The state counted, with the status EXCEEDED and the verdict that follows. -/
def State.exceeding (s : State) (h : Health) : State :=
  { s with retention := { s.retention with
    counts := s.retention.counts.set h (satAdd 65535 (s.retention.counts.get h))
    exceeded := s.retention.exceeded.set h true
    verdict := verdictOf s.params.health (s.retention.exceeded.set h true) } }

theorem reaches_iff (s : State) (h : Health) : s.reaches h ↔
    (exceededOf (s.params.health.get h) (satAdd 65535 (s.retention.counts.get h)) &&
      !s.retention.exceeded.get h) = true := by
  simp [State.reaches, exceededOf, and_comm]

theorem counted_frame (s : State) (h : Health) : Frame [.health] s (s.counted h) :=
  setHealth_frame _ s.retention.exceeded s.retention.verdict s

theorem exceeding_frame (s : State) (h : Health) : Frame [.health] s (s.exceeding h) := setHealth_frame _ _ _ s

theorem countHealth_of_reset (reset : s.anyReset = true) : countHealth h s = s := if_pos reset

theorem countHealth_of_below (out : s.anyReset = false) (below : ¬s.reaches h) : countHealth h s = s.counted h := by
  rw [reaches_iff] at below
  exact (if_neg (by simp [out])).trans (if_neg below)

theorem countHealth_of_reaches (out : s.anyReset = false) (reaches : s.reaches h) :
    countHealth h s = trigger (.health h) (setFlag .attributeExceeded (s.exceeding h)) := by
  rw [reaches_iff] at reaches
  exact (if_neg (by simp [out])).trans (if_pos reaches)

/-- Out of reset a count rises by one, and no other moves. -/
theorem countHealth_counts (out : s.anyReset = false) :
    (countHealth h s).retention.counts = s.retention.counts.set h (satAdd 65535 (s.retention.counts.get h)) := by
  by_cases reaches : s.reaches h
  · rw [countHealth_of_reaches out reaches, trigger_retention, setFlag_retention]
    rfl
  · rw [countHealth_of_below out reaches]
    rfl

theorem countHealth_exceeded (out : s.anyReset = false) (reaches : s.reaches h) :
    (countHealth h s).retention.exceeded = s.retention.exceeded.set h true := by
  rw [countHealth_of_reaches out reaches, trigger_retention, setFlag_retention]
  rfl

theorem countHealth_verdictShown (out : s.anyReset = false) (reaches : s.reaches h) :
    VerdictShown (countHealth h s) := by
  apply verdictShown_of_eq
  rw [countHealth_exceeded out reaches, countHealth_params, countHealth_of_reaches out reaches, trigger_retention,
    setFlag_retention]
  rfl

theorem countHealth_flag (out : s.anyReset = false) (reaches : s.reaches h) :
    flagSet (countHealth h s).status.flags .attributeExceeded = true := by
  rw [countHealth_of_reaches out reaches]
  exact (trigger_requests ..).flags _ (setFlag_sets (s := s.exceeding h) _ out)

/-- A single entry made now stands in the ring. -/
theorem Traced.mem {e : TraceKind} (traced : Traced [e] s t) : ⟨e, s.clock.op⟩ ∈ t.recorder.ring := by
  rw [traced]
  exact List.mem_append_right _ (List.mem_singleton_self _)

/-- The ADVISORY trigger of a count that enters EXCEEDED: its entry, and its disposal (R155). -/
theorem countHealth_trigger (out : s.anyReset = false) (reaches : s.reaches h) :
    ∃ u, Frame (.health :: .flags :: tracePieces) s u ∧
      ⟨.trigger (.health h) 2 true, s.clock.op⟩ ∈ u.recorder.ring ∧
      Disposed (stampNow s (.health h) .advisory) u (countHealth h s) := by
  rw [countHealth_of_reaches out reaches]
  have flagged : Frame (.health :: .flags :: tracePieces) s (setFlag .attributeExceeded (s.exceeding h)) :=
    ((exceeding_frame s h).mono (by decide)).trans ((setFlag_frame ..).mono (by decide))
  have clock : (setFlag .attributeExceeded (s.exceeding h)).clock = s.clock := flagged.same .clock (by decide)
  obtain ⟨-, u, entered, traced, disposed⟩ :=
    raise_raised (.health h) .advisory ((flagged.anyReset_eq (by decide)).trans out) rfl
  have entry := traced.mem
  rw [clock] at entry
  rw [stampNow, clock] at disposed
  exact ⟨u, flagged.trans (entered.mono (by decide)), entry, disposed⟩

/-! ### What counts (R192) -/

/-- A count behind requests that leave the retention unit as it was. -/
theorem countHealth_counts_behind (same : t.retention = s.retention) (out : t.anyReset = false) :
    (countHealth h t).retention.counts = s.retention.counts.set h (satAdd 65535 (s.retention.counts.get h)) := by
  rw [countHealth_counts out, same]

/-- A truck's entry to DUMP from APPLY counts in SLIDE_EPISODES. -/
theorem reportCount_of_dump {old new : SlideUnit} {j : Truck} (was : old.trucks.get j = .apply)
    (is : new.trucks.get j = .dump) : reportCount old new s j = countHealth .slideEpisodes s := by
  simp [reportCount, was, is]

/-- A truck's entry to FAULT counts in SLIDE_FAULTS, whatever state it leaves. -/
theorem reportCount_of_fault {old new : SlideUnit} {j : Truck} (was : old.trucks.get j ≠ .fault)
    (is : new.trucks.get j = .fault) : reportCount old new s j = countHealth .slideFaults s := by
  rw [reportCount, if_neg (by simpa [is] using was), is]
  cases old.trucks.get j <;> rfl

/-- Every other move of a truck, and none, counts in nothing. -/
theorem reportCount_of_other {old new : SlideUnit} {j : Truck} (other : old.trucks.get j = new.trucks.get j ∨
      new.trucks.get j ≠ .fault ∧ ¬(old.trucks.get j = .apply ∧ new.trucks.get j = .dump)) :
    reportCount old new s j = s := by
  rcases other with stays | ⟨fault, dump⟩
  · exact if_pos (by simpa using stays)
  · unfold reportCount
    split
    · rfl
    · split
      · rename_i was is
        exact absurd ⟨was, is⟩ dump
      · rename_i is
        exact absurd is fault
      · rfl

theorem gridEntered_retention (s : State) (j : Truck) (g : GridState) :
    (s.gridEntered j g).retention = s.retention :=
  (gridEntered_frame s j g).retention_eq (by decide) (by decide)

theorem evalGrid_counts_nothing {j : Truck} (quiet : s.nextGrid j = s.blend.grid.get j ∨ s.nextGrid j = .cool) :
    (evalGrid j s).retention.counts = s.retention.counts := by
  by_cases stays : s.nextGrid j = s.blend.grid.get j
  · rw [evalGrid_of_stays stays]
  · rw [evalGrid_to_cool stays (quiet.resolve_left stays), gridEntered_retention]

theorem evalGrid_counts_derate {j : Truck} (out : s.anyReset = false) (moves : s.nextGrid j ≠ s.blend.grid.get j)
    (new : s.nextGrid j = .derated) : (evalGrid j s).retention.counts =
      s.retention.counts.set .gridDerates (satAdd 65535 (s.retention.counts.get .gridDerates)) := by
  rw [evalGrid_to_derated moves new]
  exact countHealth_counts_behind (by rw [setFlag_retention, gridEntered_retention])
    (by rw [setFlag_anyReset, gridEntered_anyReset, out])

theorem evalGrid_counts_trip {j : Truck} (out : s.anyReset = false) (moves : s.nextGrid j ≠ s.blend.grid.get j)
    (new : s.nextGrid j = .tripped) : (evalGrid j s).retention.counts =
      s.retention.counts.set .gridTrips (satAdd 65535 (s.retention.counts.get .gridTrips)) := by
  rw [evalGrid_to_tripped moves new, raise_retention]
  exact countHealth_counts_behind (by rw [setFlag_retention, gridEntered_retention])
    (by rw [setFlag_anyReset, gridEntered_anyReset, out])

theorem tractionLost_counts (out : s.anyReset = false) : (tractionLost s).retention.counts =
    s.retention.counts.set .tractionLosses (satAdd 65535 (s.retention.counts.get .tractionLosses)) := by
  have entered : (enterTraction .lost s).retention = s.retention := trace_retention ..
  rw [tractionLost, trigger_retention]
  exact countHealth_counts_behind (by rw [setFlag_retention, entered]) (by simpa using out)

theorem airLost_counts (out : s.anyReset = false) : (airLost s).retention.counts =
    s.retention.counts.set .airLosses (satAdd 65535 (s.retention.counts.get .airLosses)) := by
  have entered : (enterAir .lost s).retention = s.retention := trace_retention ..
  have reset : (enterAir .lost s).anyReset = s.anyReset := trace_anyReset ..
  rw [airLost, airLossRequests, trigger_retention]
  exact countHealth_counts_behind (by rw [setFlag_retention, entered]) (by rw [setFlag_anyReset, reset, out])

theorem penaltyRequests_counts (y : TriggerCause) (out : s.anyReset = false) :
    (penaltyRequests y s).retention.counts =
      s.retention.counts.set .penalties (satAdd 65535 (s.retention.counts.get .penalties)) := by
  rw [penaltyRequests, trigger_retention]
  exact countHealth_counts_behind (setFlag_retention ..) (by rw [setFlag_anyReset, out])

/-! ### The statement -/

/-- Settles O50: the refusals are the key check's (`keyCheck_of_frozen` to `keyCheck_refuses_key`) in front of whichever
owner, the effects those of the accepted owners, and a count is `State.counted` or, at its threshold,
`State.exceeding` with its requests. -/
theorem keysGuardTheirDirectives : Obligations.KeysGuardTheirDirectives := by
  refine ⟨?_, ?_, ?_, ?_, ?_, ?_, ?_⟩
  · rintro c _ s x k mem bearing ⟨slot, rfl, waits⟩ named
    obtain ⟨owner, command⟩ := exec_eq_keyed mem bearing
    refine ⟨_, (command s).trans (run_onDirective ⟨slot, rfl, waits⟩), fun frozen => ?_, fun thawed lock => ?_,
      fun open' unset other => ?_, fun v open' set wrong => ?_⟩
    · exact keyed_ends_refused slot (keyCheck_of_frozen frozen) (by decide)
    · exact keyed_ends_refused slot (keyCheck_of_locked thawed lock) (by decide)
    · exact keyed_ends_refused slot (keyCheck_refuses_unset open' named unset other) (by decide)
    · exact keyed_ends_key slot (keyCheck_refuses_key open' named set wrong)
  · exact fun strict k => ⟨rfl, rfl, rfl, rfl, rfl, rfl⟩
  · exact fun s x k awaits thawed unlocked => setKey_takes_effect awaits (admits_of_clear thawed unlocked)
  · exact fun s x awaits thawed unlocked => setRetentionLevel_takes_effect awaits (admits_of_clear thawed unlocked)
  · refine fun s h => ⟨countHealth_of_reset, fun out => ?_⟩
    refine ⟨?_, fun j other => ?_, fun below => ?_, fun reaches => ?_⟩
    · rw [countHealth_counts out, Eight.get_set_self]
    · rw [countHealth_counts out, Eight.get_set_ne _ _ other]
    · rw [countHealth_of_below out below]
      exact ⟨rfl, rfl, counted_frame s h⟩
    · refine ⟨?_, fun j other => ?_, countHealth_verdictShown out reaches, countHealth_flag out reaches,
        countHealth_trigger out reaches⟩
      · rw [countHealth_exceeded out reaches, Eight.get_set_self]
      · rw [countHealth_exceeded out reaches, Eight.get_set_ne _ _ other]
  · intro s out
    refine ⟨fun old new j => ⟨fun was is => ?_, fun was is => ?_, fun other => ?_⟩, fun j => ?_,
      tractionLost_counts out, airLost_counts out, fun y => penaltyRequests_counts y out⟩
    · rw [reportCount_of_dump was is]
      exact countHealth_counts out
    · rw [reportCount_of_fault was is]
      exact countHealth_counts out
    · rw [reportCount_of_other other]
    · dsimp only
      rw [evalGrid_get_self]
      exact ⟨evalGrid_counts_nothing, evalGrid_counts_derate out, evalGrid_counts_trip out⟩
  · exact fun s x awaits thawed unlocked => resetAttributes_takes_effect awaits (admits_of_clear thawed unlocked)

end Sys2Proof.Machine
end

section
/-! Proofs about what the part writes and reads back: the CRC as a register stepped bit by bit (R205), and the checksums,
as the part checks them and as it writes them (R206). -/

namespace Sys2Proof.Machine

variable {r : Nat} {bs : List Byte}

/-! ### The CRC (R205) -/

/-- One step moves the register right by one place; the polynomial enters where the bit shifted out was 1. -/
theorem crcStep_eq_ite (r : Nat) : crcStep r = if r % 2 = 1 then (r / 2) ^^^ 0xEDB88320 else r / 2 := by
  rw [crcStep, Nat.shiftRight_eq_div_pow, Nat.pow_one]
  rcases Nat.mod_two_eq_zero_or_one r with even | odd
  · simp [even]
  · simp [odd]

/-- A byte enters by exclusive-or and brings eight steps. -/
theorem crcByte_eq_foldl (r : Nat) (b : Byte) :
    crcByte r b = (List.range 8).foldl (fun q _ => crcStep q) (r ^^^ b.toNat) := rfl

theorem crcStep_lt (h : r < 2 ^ 32) : crcStep r < 2 ^ 32 := by
  have half : r / 2 < 2 ^ 32 := by omega
  rw [crcStep_eq_ite]
  split
  · exact Nat.xor_lt_two_pow half (by decide)
  · exact half

theorem crcSteps_lt (l : List Nat) (h : r < 2 ^ 32) : l.foldl (fun q _ => crcStep q) r < 2 ^ 32 := by
  induction l generalizing r with
  | nil => exact h
  | cons _ _ ih => exact ih (crcStep_lt h)

theorem crcByte_lt (b : Byte) (h : r < 2 ^ 32) : crcByte r b < 2 ^ 32 := by
  have byte : b.toNat < 2 ^ 32 := Nat.lt_trans b.isLt (by decide)
  rw [crcByte_eq_foldl]
  exact crcSteps_lt _ (Nat.xor_lt_two_pow h byte)

theorem crcBytes_lt (bs : List Byte) (h : r < 2 ^ 32) : bs.foldl crcByte r < 2 ^ 32 := by
  induction bs generalizing r with
  | nil => exact h
  | cons b _ ih => exact ih (crcByte_lt b h)

theorem crc32_lt (bs : List Byte) : crc32 bs < 2 ^ 32 :=
  Nat.xor_lt_two_pow (crcBytes_lt bs (by decide)) (by decide)

/-! ### The checksum (R206) -/

/-- The sum of bytes, taken as unsigned values. -/
def byteTotal (bs : List Byte) : Nat := (bs.map BitVec.toNat).sum

theorem byteTotal_append (as bs : List Byte) : byteTotal (as ++ bs) = byteTotal as + byteTotal bs := by
  simp [byteTotal]

theorem byteTotal_byte1 (v : Nat) : byteTotal (byte1 v) = v % 256 := by
  simp [byteTotal, byte1, leBytes]

theorem byteSum_eq (bs : List Byte) : byteSum bs = byteTotal bs % 256 := by
  rw [byteSum, byteTotal, List.sum_eq_foldl_nat, List.foldl_map]

theorem checksumHolds_iff (bs : List Byte) : checksumHolds bs = true ↔ byteTotal bs % 256 = 0 := by
  rw [checksumHolds, beq_iff_eq, byteSum_eq]

theorem checksumHolds_eq_false_iff (bs : List Byte) : checksumHolds bs = false ↔ byteTotal bs % 256 ≠ 0 := by
  rw [Ne, ← checksumHolds_iff, Bool.not_eq_true]

theorem checksumOf_eq_ite (bs : List Byte) :
    checksumOf bs = if byteTotal bs % 256 = 0 then 0 else 256 - byteTotal bs % 256 := by
  rw [checksumOf, byteSum_eq]
  split <;> omega

/-- The checksum byte brings the sum of the bytes it covers to 0. -/
theorem byteTotal_add_checksumOf (bs : List Byte) : (byteTotal bs + checksumOf bs) % 256 = 0 := by
  rw [checksumOf, byteSum_eq]
  omega

/-- Wherever the checksum byte stands among the bytes it covers, their sum is 0. -/
theorem byteTotal_checksummed (as bs : List Byte) :
    byteTotal (as ++ byte1 (checksumOf (as ++ bs)) ++ bs) % 256 = 0 := by
  have whole := byteTotal_add_checksumOf (as ++ bs)
  rw [byteTotal_append] at whole
  rw [byteTotal_append, byteTotal_append, byteTotal_byte1]
  omega

/-! ### What is refused for its checksum -/

theorem anchorGood_of_checksum (h : checksumHolds (slice 0 16 bs) = false) : anchorGood bs = false := by
  simp [anchorGood, h]

theorem headerPasses_of_checksum (n : Nat) (h : checksumHolds (slice 0 64 bs) = false) :
    headerPasses n bs = false := by
  simp [headerPasses, h]

theorem entryOf_of_checksum (n k : Nat) (h : checksumHolds bs = false) :
    entryOf n k bs = ⟨.unreadable, 0, 0, false⟩ := by
  simp [entryOf, h]

theorem configFailure_of_checksum (a : Addr) (h : checksumHolds (slice 0 512 bs) = false) :
    configFailure a bs = some (.configChecksum, 0) := by
  simp [configFailure, h]

/-- The checks behind the checksum have codes of their own. -/
theorem configFailure_ne_checksum (a : Addr) (n : Nat) (h : checksumHolds (slice 0 512 bs) = true) :
    configFailure a bs ≠ some (.configChecksum, n) := by
  rw [configFailure, h]
  by_cases version : field 0 2 bs = 1
  · cases range : firstFailing (fieldsGood bs) with
    | some i => simp [version]
    | none =>
      cases windows : firstWindowBreak a (field 205 2 bs) (parseWindows bs) with
      | some i => simp [version]
      | none => simp [version]
  · simp [version]

theorem configFailure_checksum_iff (a : Addr) (bs : List Byte) :
    (∃ n, configFailure a bs = some (.configChecksum, n)) ↔ byteTotal (slice 0 512 bs) % 256 ≠ 0 := by
  rw [← checksumHolds_eq_false_iff]
  constructor
  · rintro ⟨n, fails⟩
    exact eq_false_of_ne_true fun holds => configFailure_ne_checksum a n holds fails
  · exact fun bad => ⟨0, configFailure_of_checksum a bad⟩

/-! ### What the part writes -/

theorem SlotEntry.bytes_length (e : SlotEntry) : e.bytes.length = 8 := by simp [SlotEntry.bytes]

theorem SlotEntry.byteTotal_bytes (e : SlotEntry) : byteTotal e.bytes % 256 = 0 := byteTotal_checksummed _ _

theorem headerBytes_length (n next lifetime : Nat) (c : ClassCounts) (unstored : Nat) (last : Option Cause) :
    (headerBytes n next lifetime c unstored last).length = 64 := by
  simp [headerBytes]

theorem byteTotal_headerBytes (n next lifetime : Nat) (c : ClassCounts) (unstored : Nat) (last : Option Cause) :
    byteTotal (headerBytes n next lifetime c unstored last) % 256 = 0 := by
  simpa [headerBytes] using byteTotal_checksummed (padTo 63 _) []

/-! ### The statement -/

/-- Settles O52: the CRC is its register's steps (`crcStep_eq_ite`), which keep it within 32 bits; the checksum byte
brings any run to the sum 0 (`byteTotal_checksummed`), and each reader refuses a run of another sum. -/
theorem checksumsCoverTheirRuns : Obligations.ChecksumsCoverTheirRuns := by
  refine ⟨fun bs => ⟨?_, crc32_lt bs⟩, by decide +kernel, checksumHolds_iff, checksumOf_eq_ite, fun bs bad => ?_,
    configFailure_checksum_iff, fun n bs bad => ?_, fun n k bs bad => ?_,
    fun e => ⟨e.bytes_length, e.byteTotal_bytes⟩,
    fun n next lifetime c unstored last => ⟨headerBytes_length .., byteTotal_headerBytes ..⟩⟩
  · simp only [← crcStep_eq_ite]
    rfl
  · exact anchorGood_of_checksum ((checksumHolds_eq_false_iff _).mpr bad)
  · exact headerPasses_of_checksum n ((checksumHolds_eq_false_iff _).mpr bad)
  · rw [entryOf_of_checksum n k ((checksumHolds_eq_false_iff _).mpr bad)]

end Sys2Proof.Machine
end
